-- ==== Sys2Proof/Word.lean ====
section
/-! DEFINITION. The word types of the TZ-6 and the fixed tables its registers stand in. -/

namespace Sys2Proof

/-- One byte (spec/00_scope.md 0.10). -/
abbrev Byte := BitVec 8

/-- One beat's data: four bytes (spec/00_scope.md Table 0-5). -/
abbrev Word := BitVec 32

/-- A memory-link byte address (spec/00_scope.md Table 0-4). -/
abbrev Addr := BitVec 40

/-- A deck-link Tag (spec/03_deck_link_signalling.md R47). -/
abbrev Tag := BitVec 16

/-- A millisecond stamp (spec/09_status_counters_and_attention.md R159). -/
abbrev Stamp := BitVec 32

/-- A take counter (spec/09_status_counters_and_attention.md R163). -/
abbrev Counter := BitVec 16

/-- A Dn_ISENSE conversion in units of 0.1 A (spec/00_scope.md Table 0-2). -/
abbrev Current := BitVec 10

/-- Transfer id 0 to 15 (spec/00_scope.md Table 0-5). -/
abbrev TransferId := Fin 16

/-- Deck link 0 or 1. -/
abbrev LinkId := Fin 2

/-- Transmit slot 0 to 7 of a link. -/
abbrev SlotId := Fin 8

/-- Ring 0 to 3. -/
abbrev RingId := Fin 4

/-- Poll entry 0 to 31. -/
abbrev PollId := Fin 32

/-- Drive channel D0, D1 or D2. -/
abbrev ChanId := Fin 3

/-- Interlock entry 0 to 7. -/
abbrev LockId := Fin 8

/-- The record of one of a fixed number of like things. -/
def look {α : Type} {n : Nat} (v : Vector α n) (i : Fin n) : α := v[i.val]

/-- The table with one record changed by `f`. -/
def update {α : Type} {n : Nat} (v : Vector α n) (i : Fin n) (f : α → α) : Vector α n :=
  v.set i.val (f v[i.val])

/-- The table with every record changed by `f`, which is told the record's number. -/
def updateAll {α β : Type} {n : Nat} (v : Vector α n) (f : Fin n → α → β) : Vector β n :=
  Vector.ofFn fun i => f i v[i.val]

end Sys2Proof
end

