-- ==== Sys2Proof/Syntax.lean ====
section
/-! DEFINITION. The commands of the TZ-6: one constructor for each row of spec/opcode_table.json, with what
each carries into the part. -/

namespace Sys2Proof

/-- A level of a deck line; a dominant bit is 0, a recessive bit 1 (R46). -/
inductive Level where
  | dominant
  | recessive
  deriving DecidableEq, Repr

/-- A direction of a drive channel, or an end of its travel (00_scope.md 0.10 "Directions"). -/
inductive Dir where
  | outward
  | inward
  deriving DecidableEq, Repr

/-- The code of a downstream response; any code but OKAY is recorded as MEMERR (R14). -/
inductive DownCode where
  | okay
  | other
  deriving DecidableEq, Repr

/-- One beat of a write: its data and byte enables, bit n for byte n. -/
structure WriteBeat where
  data    : Word
  enables : BitVec 4
  deriving DecidableEq, Repr

/-- The direction of a transfer with what that direction carries. -/
inductive TransferOp where
  | read  (beats : Nat)
  | write (beats : List WriteBeat)
  deriving DecidableEq, Repr

/-- A transfer as it stands on the upstream port (00_scope.md Table 0-5 "Transfer"). -/
structure Transfer where
  id    : TransferId
  start : Addr
  op    : TransferOp
  deriving DecidableEq, Repr

/-- The bytes of a command block beside its code: speed, run limit, target and the ignored bytes 8 to 15
(11_record_layouts.md Table 11-14). -/
structure CommandFields where
  speed    : Byte
  runLimit : BitVec 16
  target   : Word
  ignored  : BitVec 64
  deriving DecidableEq, Repr

/-- The input levels read when the start reset ends (R121, R139, R158). -/
structure InputLevels where
  endOut : Vector Bool 3
  endIn  : Vector Bool 3
  esl    : Bool
  deriving DecidableEq, Repr

/-- The commands. `id` is the transfer id of the upstream transfer a request is; `body` the five host-field
words (slot offsets 12 to 31) written in the same transfer, if they are; `levels` the levels read on the line
since the link's last command of this kind, the last of them the bit-time of the event; `nth` which of the
internal transfers issued and not yet answered the downstream response answers. -/
inductive Instr where
  | startReset (planSel : BitVec 4)
  | upstreamTransferTaken (t : Transfer)
  | downstreamGrant
  | pieceAnswered (entry piece : Nat) (code : DownCode) (data : List Word)
  | planSequenceTrigger (id : TransferId) (value : Word)
  | planReadComplete (nth : Nat) (code : DownCode) (data : List Word)
  | modeRequestSetup (link : LinkId) (id : TransferId)
  | modeRequestRun (link : LinkId) (id : TransferId)
  | modeRequestListen (link : LinkId) (id : TransferId)
  | modeRequestMirror (link : LinkId) (id : TransferId)
  | modeRequestQuiet (link : LinkId) (id : TransferId)
  | quietGap (link : LinkId) (levels : List Level)
  | arbitrationLost (link : LinkId) (levels : List Level)
  | messageSent (link : LinkId) (levels : List Level)
  | messageReceived (link : LinkId) (levels : List Level)
  | shapeError (link : LinkId) (levels : List Level)
  | checkError (link : LinkId) (levels : List Level)
  | noConfirmError (link : LinkId) (levels : List Level)
  | clashError (link : LinkId) (levels : List Level)
  | stuck (link : LinkId) (levels : List Level)
  | errorMarkEnd (link : LinkId) (levels : List Level)
  | recovery (link : LinkId) (levels : List Level)
  | mirrorGapEnd (link : LinkId)
  | mirroredMessageEnd (link : LinkId)
  | quietWake (link : LinkId) (levels : List Level)
  | send (link : LinkId) (slot : SlotId) (id : TransferId) (body : Option (Vector Word 5))
  | answer (link : LinkId) (slot : SlotId) (id : TransferId) (body : Option (Vector Word 5))
  | abort (link : LinkId) (slot : SlotId) (id : TransferId)
  | abortAll (link : LinkId) (id : TransferId)
  | slotFetchComplete (nth : Nat) (code : DownCode) (data : List Word)
  | ringBodyWriteComplete (nth : Nat) (code : DownCode)
  | ringMarkerWriteComplete (nth : Nat) (code : DownCode)
  | release (ring : RingId) (entry : Fin 64) (id : TransferId)
  | latentFetch (firstWord : Fin 256) (beats : Nat) (id : TransferId)
  | autoExpiry (entry : PollId)
  | replyTimeout (entry : PollId)
  | stalenessExpiry (entry : PollId)
  | enable (chan : ChanId) (id : TransferId) (f : CommandFields)
  | disable (chan : ChanId) (id : TransferId) (f : CommandFields)
  | moveOut (chan : ChanId) (id : TransferId) (f : CommandFields)
  | moveIn (chan : ChanId) (id : TransferId) (f : CommandFields)
  | goto (chan : ChanId) (id : TransferId) (f : CommandFields)
  | stop (chan : ChanId) (id : TransferId) (f : CommandFields)
  | clearTrip (chan : ChanId) (id : TransferId) (f : CommandFields)
  | watchOn (chan : ChanId) (id : TransferId) (f : CommandFields)
  | watchOff (chan : ChanId) (id : TransferId) (f : CommandFields)
  | stampTick
  | rampEnd (chan : ChanId)
  | currentConversion (chan : ChanId) (value : Current)
  | overcurrentEvent (chan : ChanId)
  | pulse (chan : ChanId)
  | endSwitchChange (chan : ChanId) (which : Dir) (active : Bool)
  | dwellExpiry (chan : ChanId)
  | stallExpiry (chan : ChanId)
  | runtimeExpiry (chan : ChanId)
  | eslAssertion
  | eslRelease
  | holdExpiry (chan : ChanId)
  | take (firstWord : Fin 128) (beats : Nat) (id : TransferId)
  | attentionPulseEnd
  | attentionGapEnd
  | repeaterPeriodExpiry
  | repeaterReadComplete (nth : Nat) (code : DownCode) (data : List Word)
  | frameSent
  | finishingFrameSent
  | upstreamResponseLeaves
  | startMarkRead (link : LinkId) (levels : List Level)
  | resetEnd (inputs : InputLevels)
  deriving DecidableEq, Repr

end Sys2Proof
end

