-- ==== Sys2Proof/Config.lean ====
section
/-! DEFINITION. The values the spec leaves open. None has a body, so no proof can see what they are. -/

namespace Sys2Proof

/-- The mode left of a QUIET that completes from a mode that is neither RUN nor LISTEN (log 13): true
for RUN, false for LISTEN. DESIGN CHOICE: spec/03_deck_link_signalling.md Table 3-1 admits no other value and
R65 names none for this case. Applied to `State.freeCount`. -/
opaque Config.modeLeftIsRun : Nat → Bool

/-- The order in which one assertion of the emergency stop line reaches D0, D1 and D2 (log 17), as the
number of one of the six orders. DESIGN CHOICE: spec/08_trips_and_interlocks.md R148 gives no order. Applied to
`State.freeCount`. -/
opaque Config.eslOrder : Nat → Fin 6

end Sys2Proof
end

