-- ==== Sys2Proof/Machine/State.lean ====
section
/-! DEFINITION. Everything the spec gives the TZ-6 to hold, as plain data, and its value after the start reset.
Tables named here are those of spec/. -/

namespace Sys2Proof.Machine

/-! ### The plan (Tables 11-1 to 11-10) -/

/-- The view of an ECHO or LIVE window. -/
inductive View where
  | active
  | peek
  deriving DecidableEq, Repr

/-- What a window presents (Table 2-7). -/
inductive WindowKind where
  | post (link : LinkId)
  | gather (ring : RingId)
  | echo (view : View)
  | live (view : View)
  | drive
  deriving DecidableEq, Repr

/-- A valid entry of the window table (R39). -/
structure Window where
  kind : WindowKind
  base : Addr
  deriving DecidableEq, Repr

inductive BitRate where
  | kbit62 | kbit125 | kbit250 | kbit500
  deriving DecidableEq, Repr

inductive RecoverySetting where
  | auto | manual
  deriving DecidableEq, Repr

/-- Link settings (Table 11-3); a retry limit of 15 is unlimited. -/
structure LinkSettings where
  rate         : BitRate
  recovery     : RecoverySetting
  retryLimit   : Nat
  pollPriority : Nat
  deriving DecidableEq, Repr

/-- Ring settings (Table 11-4). -/
structure RingSettings where
  length      : Nat
  keepDamaged : Bool
  deriving DecidableEq, Repr

/-- The Kind of a deck-link message (Table 3-3). -/
inductive Kind where
  | data | ask | reply
  deriving DecidableEq, Repr

inductive SieveTarget where
  | ring (r : RingId)
  | drop
  deriving DecidableEq, Repr

/-- A valid sieve (Table 11-5); bit n of `kinds` is the Kind of code n. -/
structure Sieve where
  kinds  : BitVec 3
  target : SieveTarget
  tag    : Tag
  care   : BitVec 16
  deriving DecidableEq, Repr

inductive PollMode where
  | ask | hear
  deriving DecidableEq, Repr

/-- A valid poll table entry (Tables 6-2, 11-6), times in ms. -/
structure PollSettings where
  link         : LinkId
  mode         : PollMode
  tag          : Tag
  replyTimeout : Nat
  maxAge       : Nat
  autoInterval : Nat
  deriving DecidableEq, Repr

inductive TripMode where
  | cut | warn
  deriving DecidableEq, Repr

/-- A valid drive settings entry (Tables 7-3, 11-7). -/
structure DriveSettings where
  tripFilter    : Nat
  tripThreshold : Nat
  tripMode      : TripMode
  restDir       : Dir
  stallTime     : Nat
  runLimit      : Nat
  rampTime      : Nat
  stopDwell     : Nat
  holdTime      : Nat
  travelMin     : Int
  travelMax     : Int
  alarm         : Option (LinkId × SlotId)
  watchLimit    : Nat
  deriving DecidableEq, Repr

/-- A valid drive binding (Table 11-8). -/
structure Binding where
  link : LinkId
  tag  : Tag
  deriving DecidableEq, Repr

/-- A condition of an interlock (Table 8-4). -/
inductive Condition where
  | atEnd (chan : ChanId) (which : Dir)
  | still (chan : ChanId)
  | value (entry : PollId) (byte : Nat) (mask expected : Byte)
  deriving DecidableEq, Repr

inductive GuardDir where
  | only (d : Dir)
  | both
  deriving DecidableEq, Repr

/-- A valid interlock (Table 11-9). -/
structure Interlock where
  guarded   : ChanId
  direction : GuardDir
  condition : Condition
  deriving DecidableEq, Repr

inductive RepeaterRate where
  | bit19200 | bit57600 | bit115200
  deriving DecidableEq, Repr

/-- A record the Repeater can send from a snapshot (Table 2-5 "Presented record"). -/
inductive Presented where
  | link (l : LinkId)
  | channel (c : ChanId)
  | pollEntry (p : PollId)
  | counters
  deriving DecidableEq, Repr

/-- A repeater source (Table 11-10). -/
inductive Source where
  | presented (what : Presented)
  | memory (start : Addr) (length : Nat)
  deriving DecidableEq, Repr

/-- Repeater settings; the sources are those in use (R171). -/
structure RepeaterSettings where
  rate    : RepeaterRate
  period  : Nat
  sources : List Source
  deriving DecidableEq, Repr

inductive LineMode where
  | level | pulse
  deriving DecidableEq, Repr

/-- The settings of a plan (Table 2-1). -/
structure Plan where
  attentionMask : BitVec 12
  lineMode      : LineMode
  windows       : Vector (Option Window) 12
  links         : Vector LinkSettings 2
  rings         : Vector RingSettings 4
  sieves        : Vector (Vector (Option Sieve) 16) 2
  poll          : Vector (Option PollSettings) 32
  drives        : Vector (Option DriveSettings) 3
  bindings      : Vector (Vector (Option Binding) 2) 3
  interlocks    : Vector (Option Interlock) 8
  repeater      : RepeaterSettings
  deriving DecidableEq, Repr

/-- The empty plan (R37, R45, Table 2-8). R37 and Table 2-8 name no setting of an unused ring, and of the Repeater only the
period 0: the ring's length 0 and clear keep_damaged and the Repeater's rate 19200 bit/s and empty source list are the
model's choice (log 8), and nothing uses them while the rings are unused and the Repeater is OFF. -/
def Plan.empty : Plan where
  attentionMask := 0
  lineMode := .level
  windows := Vector.replicate 12 none
  links := Vector.replicate 2 ⟨.kbit125, .auto, 0, 0⟩
  rings := Vector.replicate 4 ⟨0, false⟩
  sieves := Vector.replicate 2 (Vector.replicate 16 none)
  poll := Vector.replicate 32 none
  drives := Vector.replicate 3 none
  bindings := Vector.replicate 3 (Vector.replicate 2 none)
  interlocks := Vector.replicate 8 none
  repeater := ⟨.bit19200, 0, []⟩

/-! ### The Plan Loader (chapter 2) -/

inductive PlanState where
  | none | loading | inForce | refused
  deriving DecidableEq, Repr

inductive PlanReason where
  | none | signature | range | overlap | duplicate | locked | busy | readFailed
  deriving DecidableEq, Repr

inductive PlanSection where
  | none | header | windows | links | rings | sieves | poll | drive | bindings | interlocks | repeater | page
  deriving DecidableEq, Repr

inductive LoadStage where
  | awaitingNotice | reading
  deriving DecidableEq, Repr

/-- The page as received: the 16 words of each read, in read order; no words where a read has not completed. -/
abbrev Page := Vector (List Word) 64

/-- A load in flight (R27 to R29). `serial` tells it from every other load since the start reset (log 23). -/
structure Load where
  serial      : Nat
  value       : Word
  stage       : LoadStage
  nextRead    : Nat
  outstanding : Nat
  page        : Page
  deriving DecidableEq, Repr

structure PlanLoader where
  state      : PlanState
  reason     : PlanReason
  section_   : PlanSection
  index      : Nat
  attempted  : BitVec 16
  inForce    : BitVec 16
  plan       : Plan
  load       : Option Load
  loadSerial : Nat
  deriving DecidableEq, Repr

/-! ### The memory path (chapter 1) -/

/-- The treatment of one beat (R5). -/
inductive Disposition where
  | pass | passTrigger | withhold | substitute
  deriving DecidableEq, Repr

inductive PieceState where
  | unissued | issued | answered
  deriving DecidableEq, Repr

inductive RespCode where
  | okay | denied | memerr
  deriving DecidableEq, Repr

/-- A downstream piece (R2, R13, R14). `first` is the beat it begins at. `data` holds, for a write, the beats
to send until the piece is issued; `answer` the code and, for a read, the words once answered. -/
structure Piece where
  first  : Nat
  count  : Nat
  data   : List WriteBeat
  state  : PieceState
  code   : RespCode
  answer : List Word
  deriving DecidableEq, Repr

/-- A follow-on notice (R10): to the Plan Loader, to a Send Controller, or to the Ring Writer. -/
inductive Notice where
  | plan (serial : Nat)
  | fetch (link : LinkId) (slot : SlotId) (fetch : Nat)
  | release (ring : RingId) (entry : Nat)
  deriving DecidableEq, Repr

/-- An entry of the upstream order list (Table 1-1). Its state and its withheld mark are computed from these fields (log 24).
`snapshot` holds one place a beat, filled for the substituted beats of a read. -/
structure OrderEntry where
  id           : TransferId
  isWrite      : Bool
  start        : Addr
  beatCount    : Nat
  dispositions : List Disposition
  snapshot     : List (Option Word)
  pieces       : List Piece
  notices      : List Notice
  deriving DecidableEq, Repr

/-- A response as it leaves the upstream port (R3). -/
structure Response where
  id   : TransferId
  code : RespCode
  data : List Word
  deriving DecidableEq, Repr

inductive Stream where
  | passed | internal
  deriving DecidableEq, Repr

/-- What an internal request was made for, so that its completion finds its producer (R17, R19). -/
inductive Purpose where
  | planRead (serial index : Nat)
  | fetch (link : LinkId) (slot : SlotId) (fetch : Nat)
  | ringBody
  | ringMarker
  | repeaterRead (gather part : Nat)
  deriving DecidableEq, Repr

/-- An internal request (R17); `data` is empty for a read. -/
structure Request where
  purpose : Purpose
  isWrite : Bool
  start   : Addr
  beats   : Nat
  data    : List WriteBeat
  deriving DecidableEq, Repr

/-- A transfer put on the downstream port (R13, R21). -/
structure DownTransfer where
  stream  : Stream
  isWrite : Bool
  start   : Addr
  beats   : Nat
  data    : List WriteBeat
  deriving DecidableEq, Repr

/-- The Path Unit, the Memory Master and the downstream arbiter. `port` holds the transfers presented and not yet
taken, the one on the port first (log 6). `staged` holds the requests submitted within the event being taken; it is
empty between steps. `upstreamOut` and `downstreamOut` are what was last put on each port. -/
structure Path where
  port          : List Transfer
  orderList     : List OrderEntry
  lastGrant     : Stream
  queue         : List Request
  waitList      : List Request
  inFlight      : List Request
  staged        : List Request
  upstreamOut   : Option Response
  downstreamOut : Option DownTransfer
  deriving DecidableEq, Repr

/-! ### The deck links (chapter 3) -/

inductive Mode where
  | setup | run | listen | mirror | quiet
  deriving DecidableEq, Repr

inductive Health where
  | active | cautious | silent
  deriving DecidableEq, Repr

inductive Phase where
  | gapWait | idle | sending | receiving | marking | detached
  deriving DecidableEq, Repr

/-- A deck-link message (R47). For an ASK `length` is the reply length expected and the payload is empty. -/
structure Message where
  tag     : Tag
  kind    : Kind
  length  : Nat
  payload : List Byte
  deriving DecidableEq, Repr

/-- The assembly buffer (Table 3-1): bit-times read since the start mark, the start mark included; the message
bits among them, pace bits left out; the last level read; the running check of R49. -/
structure Assembly where
  pos   : Nat
  bits  : List Level
  last  : Level
  check : BitVec 16
  deriving DecidableEq, Repr

/-- What stands in a send queue and goes on the wire: a slot's message or the poll sender's ASK (R75). -/
inductive ItemRef where
  | slot (i : SlotId)
  | poll
  deriving DecidableEq, Repr

/-- The item on the wire (Table 3-1): what it is, its message, the levels still to send, and whether the link is still
sending it. -/
structure WireItem where
  ref     : ItemRef
  message : Message
  rest    : List Level
  sending : Bool
  deriving DecidableEq, Repr

/-- The last-captured record (R54, R66). -/
structure Captured where
  tag    : Tag
  kind   : Kind
  length : Nat
  stamp  : Stamp
  deriving DecidableEq, Repr

/-- A Link Controller (Table 3-1). `idleRun` counts the recessive bit-times read in IDLE toward the next gap
(R60), `markBits` the bits of the error mark sent (R57), `mirrorGap` says that the 12 bit-times of R64 have passed. -/
structure LinkCtl where
  mode          : Mode
  modeLeft      : Mode
  pendingMode   : Option Mode
  health        : Health
  score         : BitVec 8
  recoveryArmed : Bool
  recoveryGaps  : Nat
  phase         : Phase
  gapCount      : Nat
  idleRun       : Nat
  markBits      : Nat
  dominantRun   : Nat
  mirrorGap     : Bool
  assembly      : Assembly
  item          : Option WireItem
  lastCaptured  : Captured
  shape         : Counter
  check         : Counter
  noConfirm     : Counter
  clash         : Counter
  stuck         : Counter
  sent          : Counter
  received      : Counter
  deriving DecidableEq, Repr

/-! ### Sending (chapter 4) -/

inductive SlotState where
  | idle | fetching | queued | onWire | sent | failed | aborted | armed
  deriving DecidableEq, Repr

inductive SlotPurpose where
  | send | answer | alarm
  deriving DecidableEq, Repr

inductive FailReason where
  | none | retries | memory | body
  deriving DecidableEq, Repr

/-- A body as fetched (Table 4-1). -/
structure Body where
  priority : Nat
  kind     : Kind
  length   : Nat
  tag      : Tag
  payload  : List Byte
  deriving DecidableEq, Repr

/-- A slot record (Table 4-1). `fetch` is the identity of the open fetch. -/
structure Slot where
  state      : SlotState
  purpose    : SlotPurpose
  attempts   : BitVec 8
  answers    : BitVec 16
  abortMark  : Bool
  failReason : FailReason
  armedTag   : Option Tag
  fetch      : Option Nat
  body       : Option Body
  acceptance : Word
  deriving DecidableEq, Repr

/-- An item of a send queue (R75). -/
structure QueueItem where
  ref        : ItemRef
  priority   : Nat
  acceptance : Word
  deriving DecidableEq, Repr

/-- The poll sender's ASK (R84, R85). `abandoned` says that its outcome is to be discarded (R111). -/
structure PollAsk where
  entry      : PollId
  tag        : Tag
  priority   : Nat
  acceptance : Word
  attempts   : BitVec 8
  abortMark  : Bool
  abandoned  : Bool
  onWire     : Bool
  deriving DecidableEq, Repr

/-- A Send Controller. `fetchSerial` counts the fetches opened, which gives each its identity (log 23). -/
structure SendCtl where
  slots       : Vector Slot 8
  queue       : List QueueItem
  pollAsk     : Option PollAsk
  acceptCount : Word
  mergedAsks  : Counter
  fetchSerial : Nat
  deriving DecidableEq, Repr

/-! ### Receiving and rings (chapter 5) -/

inductive Damage where
  | none | check
  deriving DecidableEq, Repr

/-- A message in a handoff queue (R96). -/
structure Handoff where
  link    : LinkId
  ring    : RingId
  entry   : Nat
  sieve   : Nat
  message : Message
  damage  : Damage
  stamp   : Stamp
  deriving DecidableEq, Repr

structure Router where
  handoff   : List Handoff
  unrouted  : Counter
  overruns  : Counter
  deriving DecidableEq, Repr

/-- The condition of a ring entry (Table 5-3). -/
inductive EntryCond where
  | free | reserved | pending
  deriving DecidableEq, Repr

/-- The state of a ring (Tables 5-2, 5-3); `released` rises strictly. -/
structure Ring where
  length    : Nat
  head      : Nat
  oldest    : Nat
  pending   : Nat
  reserved  : Nat
  released  : List Nat
  conds     : List EntryCond
  overflows : Counter
  deriving DecidableEq, Repr

/-- The entry being written, and whether its marker write has been submitted (R97, R98). -/
structure Writing where
  handoff : Handoff
  marker  : Bool
  deriving DecidableEq, Repr

structure RingWriter where
  rings      : Vector Ring 4
  writing    : Option Writing
  lastServed : LinkId
  deriving DecidableEq, Repr

/-! ### Polled values (chapter 6) -/

inductive PollState where
  | never | fresh | queued | waiting | late | unsent
  deriving DecidableEq, Repr

/-- A poll cache record (Table 6-1); the value's length is the number of its bytes. -/
structure PollEntry where
  state      : PollState
  value      : Option (List Byte)
  valueStamp : Stamp
  stale      : Bool
  askCount   : BitVec 16
  replyTimer : Option Stamp
  staleTimer : Option Stamp
  autoTimer  : Option Stamp
  deriving DecidableEq, Repr

structure PollUnit where
  entries : Vector PollEntry 32
  queues  : Vector (List PollId) 2
  deriving DecidableEq, Repr

/-! ### Drive channels and protection (chapters 7 and 8) -/

inductive ChanState where
  | safe | ready | driveOut | driveIn | stopping | tripped
  deriving DecidableEq, Repr

/-- The origin of a drive command; `none` before the first motion (Table 7-4). -/
inductive CmdSource where
  | none | zone | deck0 | deck1
  deriving DecidableEq, Repr

inductive MotionCode where
  | moveOut | moveIn | goto
  deriving DecidableEq, Repr

/-- A motion in progress (Table 7-4); the run limit is in seconds. -/
structure Motion where
  code       : MotionCode
  dir        : Dir
  speed      : Nat
  target     : Option Int
  runLimit   : Nat
  startStamp : Stamp
  rampEnd    : Stamp
  deriving DecidableEq, Repr

inductive StopReason where
  | none | command | atTarget | end_ | softLimit | interlock | holdLapse | disabled | trip
  deriving DecidableEq, Repr

/-- A refusal reason (Table 7-6). -/
inductive RefuseReason where
  | none | badCode | badWrite | badState | range | interlock | eslActive | atEnd | sourceBusy | reverse
  | badSource
  deriving DecidableEq, Repr

structure LastRefusal where
  reason : RefuseReason
  code   : Byte
  source : CmdSource
  stamp  : Stamp
  deriving DecidableEq, Repr

/-- A channel record (Table 7-4). -/
structure Channel where
  state        : ChanState
  source       : CmdSource
  motion       : Option Motion
  duty         : Nat
  position     : Int
  lastDir      : Option Dir
  dwellEnd     : Option Stamp
  stopReason   : StopReason
  lastRefusal  : LastRefusal
  endOut       : Bool
  endIn        : Bool
  current      : Current
  refused      : Counter
  alarmsMerged : Counter
  deriving DecidableEq, Repr

inductive TripCause where
  | overcurrent | stall | runtime | esl
  deriving DecidableEq, Repr

/-- A trip record (Table 8-2). -/
structure TripRecord where
  cause    : TripCause
  dir      : Option Dir
  source   : CmdSource
  stamp    : Stamp
  position : Int
  peak     : Current
  later    : BitVec 8
  deriving DecidableEq, Repr

inductive WatchState where
  | off | on | alarmed
  deriving DecidableEq, Repr

/-- A channel's protection record (Table 8-1). -/
structure Protection where
  onset       : Option Stamp
  armed       : Bool
  peak        : Current
  stallExpiry : Option Stamp
  runExpiry   : Option Stamp
  holdExpiry  : Option Stamp
  trip        : Option TripRecord
  warnings    : Counter
  watch       : WatchState
  creep       : BitVec 16
  deriving DecidableEq, Repr

/-! ### Status and attention (chapter 9), the Repeater (chapter 10) -/

/-- Where the attention line of PULSE mode stands (R169). -/
inductive PulsePhase where
  | idle | asserted | deasserted
  deriving DecidableEq, Repr

/-- The Status Unit; bit n of `causes` is the cause of code n (Table 11-18). -/
structure StatusUnit where
  stamp        : Stamp
  causes       : BitVec 12
  pulse        : PulsePhase
  pulsesOwed   : BitVec 8
  withheld     : Counter
  memoryErrors : Counter
  repeaterLate : Counter
  lastWithheld : Addr
  deriving DecidableEq, Repr

inductive CycleState where
  | off | idle | cycling
  deriving DecidableEq, Repr

/-- A frame on HELM_TX (R171, R174, R176): the rate it began with, the bytes still to send with the one on the line
first, and how many bit-times of that byte have passed. -/
structure SendingFrame where
  rate  : RepeaterRate
  bytes : List Byte
  bit   : Nat
  deriving DecidableEq, Repr

/-- One internal read of a frame: its beats, and its words once it has completed OKAY. -/
structure FramePart where
  beats : Nat
  words : Option (List Word)
  done  : Bool
  deriving DecidableEq, Repr

/-- The frame in hand (Table 10-1). A held frame carries its MEMERR flag and its data. -/
inductive FrameInHand where
  | none
  | awaiting (gather : Nat) (parts : List FramePart)
  | held (memerr : Bool) (data : List Byte)
  | sending (frame : SendingFrame)
  deriving DecidableEq, Repr

structure Repeater where
  cycle        : CycleState
  position     : Nat
  owed         : Bool
  frame        : FrameInHand
  finishing    : Option SendingFrame
  number       : BitVec 8
  timer        : Option Stamp
  gatherSerial : Nat
  deriving DecidableEq, Repr

/-! ### The machine -/

/-- The part has no fault that stops it: every wrong input has the effect the spec states for it. -/
inductive Fault where
  deriving DecidableEq, Repr

/-- Why a command has no outcome. -/
inductive Refusal where
  /-- Raised by `exec` for a command that has no meaning yet; safe. -/
  | notModelled (mnemonic : String)
  /-- Raised by UPSTREAM_TRANSFER_TAKEN, LATENT_FETCH and TAKE for a transfer the memory link cannot carry: no beat, more
  than 16, or an unaligned start (00_scope.md Table 0-5); safe (log 4). -/
  | illFormed
  deriving DecidableEq, Repr

/-- Everything the part holds, and the queue of commands waiting. `inReset` says that RESET_N is asserted, `planSel` is
PLAN_SEL as sampled, `freeCount` counts the free values used (log 13, log 17). -/
structure State where
  pending    : List Instr
  inReset    : Bool
  planSel    : BitVec 4
  path       : Path
  loader     : PlanLoader
  links      : Vector LinkCtl 2
  senders    : Vector SendCtl 2
  routers    : Vector Router 2
  ringWriter : RingWriter
  poll       : PollUnit
  chans      : Vector Channel 3
  prots      : Vector Protection 3
  guards     : Vector (Option Bool) 8
  esl        : Bool
  status     : StatusUnit
  repeater   : Repeater
  freeCount  : Nat
  deriving DecidableEq, Repr

/-! ### After the start reset -/

/-- The assembly buffer empty (Table 3-8). -/
def Assembly.empty : Assembly := ⟨0, [], .recessive, 0xFFFF#16⟩

/-- Table 1-7. -/
def Path.reset : Path := ⟨[], [], .internal, [], [], [], [], none, none⟩

/-- R45. -/
def PlanLoader.reset : PlanLoader where
  state := .none
  reason := .none
  section_ := .none
  index := 0
  attempted := 0
  inForce := 0
  plan := Plan.empty
  load := none
  loadSerial := 0

/-- Table 3-8. -/
def LinkCtl.reset : LinkCtl where
  mode := .setup
  modeLeft := .run
  pendingMode := none
  health := .active
  score := 0
  recoveryArmed := false
  recoveryGaps := 0
  phase := .detached
  gapCount := 0
  idleRun := 0
  markBits := 0
  dominantRun := 0
  mirrorGap := false
  assembly := Assembly.empty
  item := none
  lastCaptured := ⟨0, .data, 0, 0⟩
  shape := 0
  check := 0
  noConfirm := 0
  clash := 0
  stuck := 0
  sent := 0
  received := 0

/-- Table 4-10; the acceptance number is log 8's. -/
def Slot.reset : Slot := ⟨.idle, .send, 0, 0, false, .none, none, none, none, 0⟩

/-- Table 4-10. -/
def SendCtl.reset : SendCtl := ⟨Vector.replicate 8 Slot.reset, [], none, 0, 0, 0⟩

/-- Table 5-5. -/
def Router.reset : Router := ⟨[], 0, 0⟩

/-- Table 5-5. -/
def Ring.reset : Ring := ⟨0, 0, 0, 0, 0, [], [], 0⟩

/-- Table 5-5. -/
def RingWriter.reset : RingWriter := ⟨Vector.replicate 4 Ring.reset, none, 1⟩

/-- Table 6-5. -/
def PollEntry.reset : PollEntry := ⟨.never, none, 0, false, 0, none, none, none⟩

/-- Table 6-5. -/
def PollUnit.reset : PollUnit := ⟨Vector.replicate 32 PollEntry.reset, Vector.replicate 2 []⟩

/-- Table 7-10; the end switch levels and the current are log 8's. -/
def Channel.reset : Channel where
  state := .safe
  source := .none
  motion := none
  duty := 0
  position := 0
  lastDir := none
  dwellEnd := none
  stopReason := .none
  lastRefusal := ⟨.none, 0, .none, 0⟩
  endOut := false
  endIn := false
  current := 0
  refused := 0
  alarmsMerged := 0

/-- Table 8-7. -/
def Protection.reset : Protection := ⟨none, true, 0, none, none, none, none, 0, .off, 0⟩

/-- Table 9-7. -/
def StatusUnit.reset : StatusUnit := ⟨0, 0, .idle, 0, 0, 0, 0, 0⟩

/-- R177. -/
def Repeater.reset : Repeater := ⟨.off, 0, false, .none, none, 0, none, 0⟩

/-- The machine right after the start reset has ended: Tables 1-7, 3-8, 4-10, 5-5, 6-5, 7-10, 8-7 and 9-7, R45 and
R177. PLAN_SEL, the input levels and the current are DESIGN CHOICE (log 8): 0, inactive, deasserted, 0. -/
def State.reset : State where
  pending := []
  inReset := false
  planSel := 0
  path := Path.reset
  loader := PlanLoader.reset
  links := Vector.replicate 2 LinkCtl.reset
  senders := Vector.replicate 2 SendCtl.reset
  routers := Vector.replicate 2 Router.reset
  ringWriter := RingWriter.reset
  poll := PollUnit.reset
  chans := Vector.replicate 3 Channel.reset
  prots := Vector.replicate 3 Protection.reset
  guards := Vector.replicate 8 none
  esl := false
  status := StatusUnit.reset
  repeater := Repeater.reset
  freeCount := 0

end Sys2Proof.Machine
end

