-- ==== Sys2Proof/Machine/Access.lean ====
section
/-! DEFINITION. Reading and changing one record of State, stamps, and saturating counts. -/

namespace Sys2Proof.Machine

/-- One more, but never past all ones (R163 and every saturating count of Tables 4-1, 6-1, 8-1, 8-2). -/
def satInc {n : Nat} (c : BitVec n) : BitVec n :=
  if c = BitVec.allOnes n then c else c + 1

/-- The stamp `ms` milliseconds later, modulo 2^32 (R159). -/
def later (t : Stamp) (ms : Nat) : Stamp := t + BitVec.ofNat 32 ms

/-- The milliseconds from `t` to `now`, modulo 2^32 (R159). -/
def elapsed (now t : Stamp) : Nat := (now - t).toNat

/-- The expiry stamp `e` has been reached: the time since it, modulo 2^32, is below half the wrap (log 15). -/
def reached (now e : Stamp) : Bool := elapsed now e < 2147483648

/-- A timer runs and its expiry has been reached. -/
def due (now : Stamp) (timer : Option Stamp) : Bool :=
  match timer with
  | none => false
  | some e => reached now e

namespace State

/-- The plan in force (R40). -/
def plan (s : State) : Plan := s.loader.plan

/-- The stamp (R159). -/
def now (s : State) : Stamp := s.status.stamp

def link (s : State) (l : LinkId) : LinkCtl := look s.links l
def sender (s : State) (l : LinkId) : SendCtl := look s.senders l
def router (s : State) (l : LinkId) : Router := look s.routers l
def slot (s : State) (l : LinkId) (i : SlotId) : Slot := look (s.sender l).slots i
def ring (s : State) (r : RingId) : Ring := look s.ringWriter.rings r
def pollEntry (s : State) (p : PollId) : PollEntry := look s.poll.entries p
def pollQueue (s : State) (l : LinkId) : List PollId := look s.poll.queues l
def chan (s : State) (c : ChanId) : Channel := look s.chans c
def prot (s : State) (c : ChanId) : Protection := look s.prots c
def linkSettings (s : State) (l : LinkId) : LinkSettings := look s.plan.links l
def ringSettings (s : State) (r : RingId) : RingSettings := look s.plan.rings r
def pollSettings (s : State) (p : PollId) : Option PollSettings := look s.plan.poll p
def driveSettings (s : State) (c : ChanId) : Option DriveSettings := look s.plan.drives c

def modLink (s : State) (l : LinkId) (f : LinkCtl → LinkCtl) : State :=
  { s with links := update s.links l f }
def modSender (s : State) (l : LinkId) (f : SendCtl → SendCtl) : State :=
  { s with senders := update s.senders l f }
def modRouter (s : State) (l : LinkId) (f : Router → Router) : State :=
  { s with routers := update s.routers l f }
def modSlot (s : State) (l : LinkId) (i : SlotId) (f : Slot → Slot) : State :=
  s.modSender l fun c => { c with slots := update c.slots i f }
def modRing (s : State) (r : RingId) (f : Ring → Ring) : State :=
  { s with ringWriter := { s.ringWriter with rings := update s.ringWriter.rings r f } }
def modPoll (s : State) (p : PollId) (f : PollEntry → PollEntry) : State :=
  { s with poll := { s.poll with entries := update s.poll.entries p f } }
def modPollQueue (s : State) (l : LinkId) (f : List PollId → List PollId) : State :=
  { s with poll := { s.poll with queues := update s.poll.queues l f } }
def modChan (s : State) (c : ChanId) (f : Channel → Channel) : State :=
  { s with chans := update s.chans c f }
def modProt (s : State) (c : ChanId) (f : Protection → Protection) : State :=
  { s with prots := update s.prots c f }
def modPath (s : State) (f : Path → Path) : State := { s with path := f s.path }
def modLoader (s : State) (f : PlanLoader → PlanLoader) : State := { s with loader := f s.loader }
def modStatus (s : State) (f : StatusUnit → StatusUnit) : State := { s with status := f s.status }
def modRepeater (s : State) (f : Repeater → Repeater) : State := { s with repeater := f s.repeater }
def modRingWriter (s : State) (f : RingWriter → RingWriter) : State :=
  { s with ringWriter := f s.ringWriter }

end State

end Sys2Proof.Machine
end

