-- ==== Sys2Proof/Machine/Flags.lean ====
section
/-! DEFINITION. The flags and counts of the Status Unit: the cause set, the attention line and the 36 take counters
(spec/09_status_counters_and_attention.md). -/

namespace Sys2Proof.Machine

/-! ### Causes and the attention line -/

/-- The twelve attention causes (Table 9-5). -/
inductive Cause where
  | plan | sent | received | overflow | link | pollLate | trip | currentWarn | watch | stopped | memory
  | withheld
  deriving DecidableEq, Repr

/-- The bit number of a cause (Table 11-18). -/
def Cause.code (c : Cause) : Nat :=
  match c with
  | .plan => 0 | .sent => 1 | .received => 2 | .overflow => 3 | .link => 4 | .pollLate => 5
  | .trip => 6 | .currentWarn => 7 | .watch => 8 | .stopped => 9 | .memory => 10 | .withheld => 11

/-- The bit of a cause in the cause set and in the mask. -/
def Cause.bit (c : Cause) : BitVec 12 := 1#12 <<< c.code

/-- Raising a cause (R166) under a mask and a line mode: it becomes set, and in PULSE mode a masked cause that was clear
begins a pulse or owes one (R169). -/
def StatusUnit.raise (u : StatusUnit) (mask : BitVec 12) (mode : LineMode) (c : Cause) : StatusUnit :=
  let pulses := u.causes &&& c.bit == 0 && mask &&& c.bit != 0 && mode == .pulse
  { u with
    causes := u.causes ||| c.bit
    pulse := if pulses && u.pulse == .idle then .asserted else u.pulse
    pulsesOwed := if pulses && u.pulse != .idle then satInc u.pulsesOwed else u.pulsesOwed }

/-- A cause raised under the plan in force (R166). -/
def State.raise (s : State) (c : Cause) : State :=
  s.modStatus fun u => u.raise s.plan.attentionMask s.plan.lineMode c

/-- A cause raised if `b` holds. -/
def State.raiseIf (s : State) (b : Bool) (c : Cause) : State :=
  s.modStatus fun u => if b then u.raise s.plan.attentionMask s.plan.lineMode c else u

/-- The cause is set. -/
def State.hasCause (s : State) (c : Cause) : Bool := s.status.causes &&& c.bit != 0

/-- ATTN (R168 in LEVEL mode, R169 in PULSE mode; R170 while RESET_N is asserted). -/
def State.attention (s : State) : Bool :=
  !s.inReset &&
  match s.plan.lineMode with
  | .level => s.status.causes &&& s.plan.attentionMask != 0
  | .pulse => s.status.pulse == .asserted

/-- What a plan coming into force does to the line when the mode goes from `old` to `new` (R169): with the mode
unchanged the pulses are kept, and a change of mode ends them. -/
def StatusUnit.lineModeChange (u : StatusUnit) (old new : LineMode) : StatusUnit :=
  { u with
    pulse := if old = new then u.pulse else .idle
    pulsesOwed := if old = new then u.pulsesOwed else 0 }

/-! ### Take counters (Table 9-4) -/

/-- The ten counters of a link. -/
inductive LinkCounter where
  | shape | check | noConfirm | clash | stuck | sent | received | unrouted | overruns | mergedAsks
  deriving DecidableEq, Repr

/-- The 36 take counters. -/
inductive TakeCounter where
  | withheld
  | memoryErrors
  | repeaterLate
  | link (l : LinkId) (k : LinkCounter)
  | overflows (r : RingId)
  | refused (c : ChanId)
  | warnings (c : ChanId)
  | alarmsMerged (c : ChanId)
  deriving DecidableEq, Repr

/-- The counters of a link in the order of its LIVE section. -/
def LinkCounter.all : List LinkCounter :=
  [.shape, .check, .noConfirm, .clash, .stuck, .sent, .received, .unrouted, .overruns, .mergedAsks]

/-- The 36 counters of R163. -/
def TakeCounter.all : List TakeCounter :=
  [.withheld, .memoryErrors, .repeaterLate]
    ++ (List.finRange 2).flatMap (fun l => LinkCounter.all.map (TakeCounter.link l))
    ++ (List.finRange 4).map TakeCounter.overflows
    ++ (List.finRange 3).flatMap fun c => [.refused c, .warnings c, .alarmsMerged c]

/-- The place of a counter among its link's counters (11_record_layouts.md 11.4). -/
def LinkCounter.place (k : LinkCounter) : Nat :=
  match k with
  | .shape => 0 | .check => 1 | .noConfirm => 2 | .clash => 3 | .stuck => 4 | .sent => 5
  | .received => 6 | .unrouted => 7 | .overruns => 8 | .mergedAsks => 9

/-- The byte offset of a counter in the LIVE page (Table 11-15). -/
def TakeCounter.offset (k : TakeCounter) : Nat :=
  match k with
  | .withheld => 32
  | .memoryErrors => 34
  | .repeaterLate => 36
  | .link l k => 64 + 32 * l.val + 12 + 2 * k.place
  | .overflows r => 128 + 8 * r.val + 4
  | .refused c => 160 + 64 * c.val + 48
  | .warnings c => 160 + 64 * c.val + 50
  | .alarmsMerged c => 160 + 64 * c.val + 52

/-- The LIVE word that holds a counter (R164). -/
def TakeCounter.liveWord (k : TakeCounter) : Nat := k.offset / 4

/-- The LIVE word that holds the cause set (Table 11-15). -/
def causeSetWord : Nat := 3

/-- The value of a counter, from the block that owns it. -/
def TakeCounter.get (k : TakeCounter) (s : State) : Counter :=
  match k with
  | .withheld => s.status.withheld
  | .memoryErrors => s.status.memoryErrors
  | .repeaterLate => s.status.repeaterLate
  | .link l .shape => (s.link l).shape
  | .link l .check => (s.link l).check
  | .link l .noConfirm => (s.link l).noConfirm
  | .link l .clash => (s.link l).clash
  | .link l .stuck => (s.link l).stuck
  | .link l .sent => (s.link l).sent
  | .link l .received => (s.link l).received
  | .link l .unrouted => (s.router l).unrouted
  | .link l .overruns => (s.router l).overruns
  | .link l .mergedAsks => (s.sender l).mergedAsks
  | .overflows r => (s.ring r).overflows
  | .refused c => (s.chan c).refused
  | .warnings c => (s.prot c).warnings
  | .alarmsMerged c => (s.chan c).alarmsMerged

/-- A counter set to `v`. -/
def TakeCounter.set (k : TakeCounter) (v : Counter) (s : State) : State :=
  match k with
  | .withheld => s.modStatus fun u => { u with withheld := v }
  | .memoryErrors => s.modStatus fun u => { u with memoryErrors := v }
  | .repeaterLate => s.modStatus fun u => { u with repeaterLate := v }
  | .link l .shape => s.modLink l fun k => { k with shape := v }
  | .link l .check => s.modLink l fun k => { k with check := v }
  | .link l .noConfirm => s.modLink l fun k => { k with noConfirm := v }
  | .link l .clash => s.modLink l fun k => { k with clash := v }
  | .link l .stuck => s.modLink l fun k => { k with stuck := v }
  | .link l .sent => s.modLink l fun k => { k with sent := v }
  | .link l .received => s.modLink l fun k => { k with received := v }
  | .link l .unrouted => s.modRouter l fun k => { k with unrouted := v }
  | .link l .overruns => s.modRouter l fun k => { k with overruns := v }
  | .link l .mergedAsks => s.modSender l fun k => { k with mergedAsks := v }
  | .overflows r => s.modRing r fun k => { k with overflows := v }
  | .refused c => s.modChan c fun k => { k with refused := v }
  | .warnings c => s.modProt c fun k => { k with warnings := v }
  | .alarmsMerged c => s.modChan c fun k => { k with alarmsMerged := v }

/-- One more event of a counter (R163). -/
def State.bump (s : State) (k : TakeCounter) : State := k.set (satInc (k.get s)) s

/-- A counter reduced by the value the snapshot returned for it (R165). -/
def State.takeCounter (s : State) (returned : Counter) (k : TakeCounter) : State :=
  k.set (k.get s - returned) s

/-- The read-side action of a read that covers `words` of the ACTIVE LIVE window (R165, R167): every counter in
them is reduced by what the snapshot returned, and the causes it returned are cleared if their word is among them. -/
def State.takeWords (s : State) (words : List Nat) : State :=
  let counted := (TakeCounter.all.filter fun k => words.contains k.liveWord).foldl
    (fun t k => t.takeCounter (k.get s) k) s
  counted.modStatus fun u =>
    { u with causes := if words.contains causeSetWord then u.causes &&& ~~~s.status.causes else u.causes }

/-! ### The attention line's own times (R169) -/

/-- The asserted time of a pulse ends. -/
def StatusUnit.pulseEnds (u : StatusUnit) : StatusUnit :=
  { u with pulse := if u.pulse = .asserted then .deasserted else u.pulse }

/-- The deasserted time after a pulse ends: an owed pulse begins, or the line is idle. -/
def StatusUnit.gapEnds (u : StatusUnit) : StatusUnit :=
  { u with
    pulse := if u.pulse = .deasserted then (if u.pulsesOwed = 0 then .idle else .asserted) else u.pulse
    pulsesOwed := if u.pulse = .deasserted ∧ u.pulsesOwed ≠ 0 then u.pulsesOwed - 1 else u.pulsesOwed }

end Sys2Proof.Machine
end

