-- ==== Sys2Proof/WellFormed.lean ====
section
/-! DEFINITION. Which commands the outside can give: a transfer has a start address aligned to 4 bytes and 1 to 16
beats (spec/00_scope.md Table 0-5, spec/01_the_memory_path.md 1.1). Everything else a command carries is bounded by its type. -/

namespace Sys2Proof

/-- The number of beats of a transfer (Table 1-1). -/
def Transfer.beatCount (t : Transfer) : Nat :=
  match t.op with
  | .read n => n
  | .write bs => bs.length

/-- A beat count the memory link can carry. -/
def beatCountOk (n : Nat) : Bool := 1 ≤ n && n ≤ 16

/-- A transfer the memory link can carry. -/
def Transfer.wf (t : Transfer) : Bool :=
  beatCountOk t.beatCount && t.start.toNat % 4 == 0

/-- A command the outside can give. Every constructor is named, so that a new one cannot slip past. -/
def Instr.wellFormed (i : Instr) : Bool :=
  match i with
  | .upstreamTransferTaken t => t.wf
  | .latentFetch _ beats _ => beatCountOk beats
  | .take _ beats _ => beatCountOk beats
  | .startReset _ | .downstreamGrant | .pieceAnswered _ _ _ _ | .planSequenceTrigger _ _
  | .planReadComplete _ _ _ | .modeRequestSetup _ _ | .modeRequestRun _ _ | .modeRequestListen _ _
  | .modeRequestMirror _ _ | .modeRequestQuiet _ _ | .quietGap _ _ | .arbitrationLost _ _
  | .messageSent _ _ | .messageReceived _ _ | .shapeError _ _ | .checkError _ _ | .noConfirmError _ _
  | .clashError _ _ | .stuck _ _ | .errorMarkEnd _ _ | .recovery _ _ | .mirrorGapEnd _
  | .mirroredMessageEnd _ | .quietWake _ _ | .send _ _ _ _ | .answer _ _ _ _ | .abort _ _ _
  | .abortAll _ _ | .slotFetchComplete _ _ _ | .ringBodyWriteComplete _ _
  | .ringMarkerWriteComplete _ _ | .release _ _ _ | .autoExpiry _ | .replyTimeout _
  | .stalenessExpiry _ | .enable _ _ _ | .disable _ _ _ | .moveOut _ _ _ | .moveIn _ _ _
  | .goto _ _ _ | .stop _ _ _ | .clearTrip _ _ _ | .watchOn _ _ _ | .watchOff _ _ _ | .stampTick
  | .rampEnd _ | .currentConversion _ _ | .overcurrentEvent _ | .pulse _ | .endSwitchChange _ _ _
  | .dwellExpiry _ | .stallExpiry _ | .runtimeExpiry _ | .eslAssertion | .eslRelease | .holdExpiry _
  | .attentionPulseEnd | .attentionGapEnd | .repeaterPeriodExpiry | .repeaterReadComplete _ _ _
  | .frameSent | .finishingFrameSent | .upstreamResponseLeaves | .startMarkRead _ _
  | .resetEnd _ => true

end Sys2Proof
end

