-- ==== Sys2Proof/Machine/Operands.lean ====
section
/-! DEFINITION. Operands: bytes and words, the regions of memory and the words in them (spec/01_the_memory_path.md 1.2,
spec/11_record_layouts.md), and the upstream transfers that the request commands are (log 5). -/

namespace Sys2Proof.Machine

/-! ### Bytes and words (11_record_layouts.md: little-endian) -/

/-- Byte `k` of a word, byte 0 the least significant. -/
def byteOf (w : Word) (k : Nat) : Byte := (w >>> (8 * k)).setWidth 8

/-- A word's bytes in memory order. -/
def bytesOf (w : Word) : List Byte := [byteOf w 0, byteOf w 1, byteOf w 2, byteOf w 3]

/-- `n` bytes of a number in memory order. -/
def leBytes (n v : Nat) : List Byte :=
  match n with
  | 0 => []
  | n + 1 => BitVec.ofNat 8 v :: leBytes n (v / 256)

/-- The number that bytes in memory order hold. -/
def leNat (bs : List Byte) : Nat :=
  match bs with
  | [] => 0
  | b :: bs => b.toNat + 256 * leNat bs

/-- Word `k` of bytes in memory order; bytes past the end read as 0. -/
def wordAt (bs : List Byte) (k : Nat) : Word := BitVec.ofNat 32 (leNat ((bs.drop (4 * k)).take 4))

/-- A signed 32-bit value (two's complement) as 4 bytes. -/
def signedBytes (v : Int) : List Byte := leBytes 4 (BitVec.ofInt 32 v).toNat

/-- One byte holding a flag (chapter 11: 0 or 1). -/
def flagByte (b : Bool) : Byte := if b then 1 else 0

/-- The number as an index below `n`, if it is one. -/
def toFin (n k : Nat) : Option (Fin n) := if h : k < n then some ⟨k, h⟩ else none

/-! ### Regions (R4) -/

/-- The plan page base selected by the straps (00_scope.md 0.7). -/
def planBase (planSel : BitVec 4) : Addr := BitVec.ofNat 40 (planSel.toNat * 0x10000000 + 0x0FFFF000)

/-- A window's size in bytes (R4). -/
def windowSize (p : Plan) (k : WindowKind) : Nat :=
  match k with
  | .post _ => 320
  | .gather r => (look p.rings r).length * 32
  | .echo _ => 1024
  | .live _ => 512
  | .drive => 192

/-- The windows a plan declares, in table order. -/
def Plan.validWindows (p : Plan) : List Window := p.windows.toList.filterMap id

/-- The base of the plan's window of a kind, if it declares one (R39). -/
def Plan.windowBase (p : Plan) (k : WindowKind) : Option Addr :=
  (p.validWindows.find? fun w => w.kind = k).map (·.base)

/-- An address lies in a window. -/
def Window.covers (p : Plan) (w : Window) (a : Addr) : Bool :=
  w.base.toNat ≤ a.toNat && a.toNat < w.base.toNat + windowSize p w.kind

/-- What a 4-byte word of memory is to the part (Table 1-4). Offsets inside a record are in words. -/
inductive WordRef where
  | plain
  | planSequence
  | planStatus
  | planInForce
  | mode (l : LinkId)
  | abortAll (l : LinkId)
  | linkState (l : LinkId) (word : Nat)
  | request (l : LinkId) (i : SlotId)
  | slotState (l : LinkId) (i : SlotId) (word : Nat)
  | host (l : LinkId) (i : SlotId) (word : Nat)
  | marker (r : RingId) (entry : Nat)
  | entryBody (r : RingId) (entry : Nat)
  | echo (v : View) (p : PollId) (word : Nat)
  | live (v : View) (word : Nat)
  | command (c : ChanId) (word : Nat)
  | presented (c : ChanId) (word : Nat)
  deriving DecidableEq, Repr

/-- The five word classes (Table 1-3). -/
inductive WordClass where
  | plain | trigger | guarded | substituted | commandBlock
  deriving DecidableEq, Repr

/-- Table 1-4. -/
def WordRef.wordClass (w : WordRef) : WordClass :=
  match w with
  | .plain => .plain
  | .planSequence | .mode _ | .abortAll _ | .request _ _ | .marker _ _ => .trigger
  | .host _ _ _ | .entryBody _ _ => .guarded
  | .planStatus | .planInForce | .linkState _ _ | .slotState _ _ _ | .echo _ _ _ | .live _ _
  | .presented _ _ => .substituted
  | .command _ _ => .commandBlock

/-- Word `w` of a POST window (Table 11-11). -/
def postWord (l : LinkId) (w : Nat) : WordRef :=
  if w = 0 then .mode l
  else if w = 1 then .abortAll l
  else if w < 5 then .linkState l w
  else if w < 16 then .plain
  else match toFin 8 ((w - 16) / 8) with
    | none => .plain
    | some i =>
      let k := (w - 16) % 8
      if k = 0 then .request l i else if k < 3 then .slotState l i k else .host l i k

/-- Word `w` of a window (Tables 11-11 to 11-15). -/
def windowWord (k : WindowKind) (w : Nat) : WordRef :=
  match k with
  | .post l => postWord l w
  | .gather r => if w % 8 = 0 then .marker r (w / 8) else .entryBody r (w / 8)
  | .echo v =>
    match toFin 32 (w / 8) with
    | none => .plain
    | some p => .echo v p (w % 8)
  | .live v => .live v w
  | .drive =>
    match toFin 3 (w / 16) with
    | none => .plain
    | some c => if w % 16 < 4 then .command c (w % 16) else .presented c (w % 16)

/-- Word `w` of the plan page (R24). -/
def planPageWord (w : Nat) : WordRef :=
  if w = 1 then .planSequence else if w = 2 then .planStatus else if w = 3 then .planInForce else .plain

/-- The word that an address is, under the straps and a plan (R4). -/
def classify (planSel : BitVec 4) (p : Plan) (a : Addr) : WordRef :=
  let base := (planBase planSel).toNat
  if base ≤ a.toNat ∧ a.toNat < base + 4096 then planPageWord ((a.toNat - base) / 4)
  else match p.validWindows.find? fun w => w.covers p a with
    | none => .plain
    | some w => windowWord w.kind ((a.toNat - w.base.toNat) / 4)

/-- The address of beat `k` (R4). -/
def beatAddr (t : Transfer) (k : Nat) : Addr := t.start + BitVec.ofNat 40 (4 * k)

/-- What each beat of a transfer addresses. -/
def State.refsOf (s : State) (t : Transfer) : List WordRef :=
  (List.range t.beatCount).map fun k => classify s.planSel s.plan (beatAddr t k)

/-! ### The transfers that request commands are (log 5) -/

/-- A beat with all four bytes enabled. -/
def fullBeat (v : Word) : WriteBeat := ⟨v, 15#4⟩

/-- A beat with no byte enabled. -/
def emptyBeat : WriteBeat := ⟨0, 0⟩

/-- A write of one word with every byte enabled. -/
def wordWrite (id : TransferId) (a : Addr) (v : Word) : Transfer := ⟨id, a, .write [fullBeat v]⟩

/-- The address `off` bytes into the plan's window of a kind, if it declares one. -/
def Plan.windowAddr (p : Plan) (k : WindowKind) (off : Nat) : Option Addr :=
  (p.windowBase k).map fun b => b + BitVec.ofNat 40 off

/-- The code of a mode (Table 11-18). -/
def Mode.code (m : Mode) : Nat :=
  match m with
  | .setup => 1 | .run => 2 | .listen => 3 | .mirror => 4 | .quiet => 5

/-- A mode request (R62): a full write of the mode's code to the mode word. -/
def modeTransfer (p : Plan) (l : LinkId) (m : Mode) (id : TransferId) : Option Transfer :=
  (p.windowAddr (.post l) 0).map fun a => wordWrite id a (BitVec.ofNat 32 m.code)

/-- An abort-all request (R79). -/
def abortAllTransfer (p : Plan) (l : LinkId) (id : TransferId) : Option Transfer :=
  (p.windowAddr (.post l) 4).map fun a => wordWrite id a 1

/-- Where slot `i` lies in its POST window (Table 11-11). -/
def slotOffset (i : SlotId) : Nat := 64 + 32 * i.val

/-- A slot request of a code, with the host fields written in the same transfer if a body is given. -/
def requestTransfer (p : Plan) (l : LinkId) (i : SlotId) (code : Word) (id : TransferId)
    (body : Option (Vector Word 5)) : Option Transfer :=
  (p.windowAddr (.post l) (slotOffset i)).map fun a =>
    match body with
    | none => wordWrite id a code
    | some ws => ⟨id, a, .write (fullBeat code :: emptyBeat :: emptyBeat :: ws.toList.map fullBeat)⟩

/-- A release (R100): a full write of EMPTY to an entry's fill marker. -/
def releaseTransfer (p : Plan) (r : RingId) (e : Nat) (id : TransferId) : Option Transfer :=
  if e < (look p.rings r).length then
    (p.windowAddr (.gather r) (32 * e)).map fun a => wordWrite id a 0
  else none

/-- A read of a window's words. -/
def readTransfer (p : Plan) (k : WindowKind) (firstWord beats : Nat) (id : TransferId) : Option Transfer :=
  (p.windowAddr k (4 * firstWord)).map fun a => ⟨id, a, .read beats⟩

/-- A command block (Table 11-14) in one transfer of four full beats (R124). -/
def commandTransfer (p : Plan) (c : ChanId) (code : Byte) (id : TransferId) (f : CommandFields) :
    Option Transfer :=
  (p.windowAddr .drive (64 * c.val)).map fun a =>
    ⟨id, a, .write [fullBeat (f.runLimit ++ f.speed ++ code), fullBeat f.target,
      fullBeat (f.ignored.setWidth 32), fullBeat ((f.ignored >>> 32).setWidth 32)]⟩

/-- A sequence trigger (R27). -/
def sequenceTransfer (planSel : BitVec 4) (id : TransferId) (v : Word) : Transfer :=
  wordWrite id (planBase planSel + 4) v

end Sys2Proof.Machine
end

