-- ==== Sys2Proof/Machine/Wire.lean ====
section
/-! DEFINITION. The deck-link wire, one bit-time after the other: the message's levels, the check, the assembly buffer, and
what a Link Controller makes of each level it reads (spec/03_deck_link_signalling.md R46 to R58, R60, R65). -/

namespace Sys2Proof.Machine

/-! ### Levels and fields -/

/-- A level as a bit: recessive is 1 (R46). -/
def levelBit (b : Level) : Bool := b == .recessive

/-- A bit as a level. -/
def bitLevel (b : Bool) : Level := if b then .recessive else .dominant

/-- The opposite level. -/
def otherLevel (b : Level) : Level :=
  match b with
  | .dominant => .recessive
  | .recessive => .dominant

/-- The `n` low bits of a number, most significant first (R47). -/
def bitsOf (n v : Nat) : List Level :=
  match n with
  | 0 => []
  | n + 1 => bitLevel (v.testBit n) :: bitsOf n v

/-- The number that levels spell, most significant first. -/
def natOf (ls : List Level) : Nat := ls.foldl (fun a b => 2 * a + (levelBit b).toNat) 0

/-- The code of a Kind (Table 3-3). -/
def Kind.code (k : Kind) : Nat :=
  match k with
  | .data => 0 | .ask => 1 | .reply => 2

/-- The Kind of a code; 3 is not valid (R47). -/
def kindOf (n : Nat) : Option Kind :=
  match n with
  | 0 => some .data
  | 1 => some .ask
  | 2 => some .reply
  | _ => none

/-- One message bit into the check register (R49). -/
def checkStep (c : BitVec 16) (b : Level) : BitVec 16 :=
  if c.msb != levelBit b then (c <<< 1) ^^^ 0x1021#16 else c <<< 1

/-! ### A message as its sender sends it -/

/-- The bits the check covers: Tag, Kind, Length and payload (R47, R49). -/
def Message.coveredBits (m : Message) : List Level :=
  bitsOf 16 m.tag.toNat ++ bitsOf 2 m.kind.code ++ bitsOf 5 m.length
    ++ m.payload.flatMap fun b => bitsOf 8 b.toNat

/-- The check of a message (R49). -/
def Message.check (m : Message) : BitVec 16 := m.coveredBits.foldl checkStep 0xFFFF#16

/-- The paced part: start mark, covered bits, check (R47). -/
def Message.pacedPart (m : Message) : List Level :=
  .dominant :: (m.coveredBits ++ bitsOf 16 m.check.toNat)

/-- Message bits with a pace bit after every eighth, `k` of the present eight having gone (R48). -/
def paced (k : Nat) (bs : List Level) : List Level :=
  match bs with
  | [] => []
  | b :: bs => if k = 7 then b :: otherLevel b :: paced 0 bs else b :: paced (k + 1) bs

/-- Every level the sender sends: the paced part, the confirm slot and the end mark (R47). -/
def Message.levels (m : Message) : List Level := paced 0 m.pacedPart ++ List.replicate 8 .recessive

/-- A message whose fields fit (R47): a Length of 0 to 16, and the payload its Kind and Length give. -/
def Message.wf (m : Message) : Bool :=
  m.length ≤ 16 && m.payload.length == (if m.kind = .ask then 0 else m.length)

/-! ### The assembly buffer -/

/-- A field of the message bits read, as a number. -/
def Assembly.field (a : Assembly) (first n : Nat) : Nat := natOf ((a.bits.drop first).take n)

/-- The Tag, the Kind and the Length once read (Table 11-16). -/
def Assembly.tagField (a : Assembly) : Nat := a.field 1 16
def Assembly.kindField (a : Assembly) : Nat := a.field 17 2
def Assembly.lengthField (a : Assembly) : Nat := a.field 19 5

/-- The number of payload bytes once Kind and Length are read (R47). -/
def Assembly.payloadLength (a : Assembly) : Nat :=
  if a.kindField = Kind.ask.code then 0 else a.lengthField

/-- What the next bit-time of a message is. -/
inductive BitPlace where
  | start
  | arbitration
  | covered
  | pace (last : Bool)
  | confirm
  | endMark (last : Bool)
  deriving DecidableEq, Repr

/-- Kind and Length have been read. -/
def Assembly.headRead (a : Assembly) : Bool := 24 ≤ a.bits.length

/-- The bit-times of the paced part, pace bits included, once the Length is read (R47, R48). -/
def Assembly.pacedLength (a : Assembly) : Nat := 45 + 9 * a.payloadLength

/-- The place in the message of the bit-time about to be read (R47, R48, R52). -/
def Assembly.next (a : Assembly) : BitPlace :=
  if a.pos = 0 then .start
  else if a.headRead && a.pacedLength ≤ a.pos then
    if a.pos = a.pacedLength then .confirm else .endMark (a.pos == a.pacedLength + 7)
  else if a.pos % 9 = 8 then .pace (a.headRead && a.pos + 1 == a.pacedLength)
  else if a.bits.length ≤ 18 then .arbitration
  else .covered

/-- The message bit about to be read takes part in the check (R49). -/
def Assembly.checked (a : Assembly) : Bool :=
  !a.headRead || a.bits.length < 24 + 8 * a.payloadLength

/-- The buffer with one level more. -/
def Assembly.push (a : Assembly) (b : Level) : Assembly :=
  match a.next with
  | .start => ⟨1, [b], b, 0xFFFF#16⟩
  | .arbitration | .covered =>
    ⟨a.pos + 1, a.bits ++ [b], b, if a.checked then checkStep a.check b else a.check⟩
  | .pace _ | .confirm | .endMark _ => { a with pos := a.pos + 1, last := b }

/-- The payload bytes read. -/
def Assembly.payloadBytes (a : Assembly) : List Byte :=
  (List.range a.payloadLength).map fun k => BitVec.ofNat 8 (a.field (24 + 8 * k) 8)

/-- The message assembled (R54, R56). -/
def Assembly.message (a : Assembly) : Message :=
  ⟨BitVec.ofNat 16 a.tagField, (kindOf a.kindField).getD .data, a.lengthField, a.payloadBytes⟩

/-- What a receiver finds at one level (R54, R55). -/
inductive Verdict where
  | more
  | shape
  | check
  | good
  deriving DecidableEq, Repr

/-- The verdict of a receiver that reads `b` next (Table 3-5). Where the pace bit after the Check field is itself wrong and
the check differs too, Table 3-5 names both errors at one bit-time and no precedence: the model finds SHAPE alone (log 33). -/
def Assembly.verdict (a : Assembly) (b : Level) : Verdict :=
  match a.next with
  | .start | .confirm => .more
  | .arbitration => if a.bits.length = 18 ∧ (a.push b).kindField = 3 then .shape else .more
  | .covered => if a.bits.length = 23 ∧ 16 < (a.push b).lengthField then .shape else .more
  | .pace last =>
    if b = a.last then .shape
    else if last && a.field (24 + 8 * a.payloadLength) 16 != a.check.toNat then .check
    else .more
  | .endMark last => if b = .dominant then .shape else if last then .good else .more

/-- A receiver reading levels until the first verdict other than `more`, with the buffer as it then stands and the
levels not read. -/
def Assembly.read (a : Assembly) (bs : List Level) : Verdict × Assembly × List Level :=
  match bs with
  | [] => (.more, a, [])
  | b :: bs =>
    match a.verdict b with
    | .more => (a.push b).read bs
    | v => (v, a.push b, bs)

/-! ### A Link Controller at each bit-time -/

/-- The link counts quiet gaps toward recovery (R60). -/
def LinkCtl.recovering (k : LinkCtl) : Bool := k.mode == .run && k.health == .silent && k.recoveryArmed

/-- The link confirms the message it is receiving, if the slot comes (R53). -/
def LinkCtl.confirms (k : LinkCtl) : Bool :=
  k.phase == .receiving && k.mode == .run && k.health != .silent

/-- The level the link drives in the next bit-time (R46, R53, R57); recessive is leaving the line alone. -/
def LinkCtl.drives (k : LinkCtl) : Level :=
  match k.phase with
  | .sending =>
    match k.item with
    | none => .recessive
    | some it => it.rest.headD .recessive
  | .marking => .dominant
  | .receiving => if k.assembly.next = .confirm ∧ k.confirms then .dominant else .recessive
  | .gapWait | .idle | .detached => .recessive

/-- What one bit-time brings about. -/
inductive WireEvent where
  | none
  | gap
  | startMark
  | lost
  | sentOk
  | receivedOk
  | shape
  | check
  | noConfirm
  | clash
  | stuck
  | markEnd
  | wake
  deriving DecidableEq, Repr

/-- QUIET: the line is read for wake only (R65). -/
def LinkCtl.trackQuiet (k : LinkCtl) (b : Level) : LinkCtl × WireEvent :=
  match b with
  | .recessive => ({ k with gapCount := if k.gapCount < 12 then k.gapCount + 1 else 12 }, .none)
  | .dominant => if k.gapCount = 12 then (k, .wake) else ({ k with gapCount := 0 }, .none)

/-- GAP_WAIT (R50). -/
def LinkCtl.trackGapWait (k : LinkCtl) (b : Level) : LinkCtl × WireEvent :=
  match b with
  | .dominant => ({ k with gapCount := 0 }, .none)
  | .recessive =>
    ({ k with gapCount := k.gapCount + 1 }, if k.gapCount + 1 = 12 then .gap else .none)

/-- IDLE (R50, R60). The recessive bit-times of IDLE are counted by twelves from its beginning (log 14). -/
def LinkCtl.trackIdle (k : LinkCtl) (b : Level) : LinkCtl × WireEvent :=
  match b with
  | .dominant => (k, .startMark)
  | .recessive =>
    ({ k with idleRun := (k.idleRun + 1) % 12 },
      if k.idleRun + 1 = 12 ∧ k.recovering then .gap else .none)

/-- What a sender finds when it sends `x` and reads `b` at a place of the message (R52, R54, R55). -/
def senderEvent (place : BitPlace) (x b : Level) : WireEvent :=
  match place with
  | .arbitration =>
    if x = b then .none else if x = .recessive then .lost else .clash
  | .confirm => if b = .dominant then .none else .noConfirm
  | .endMark last => if b = .dominant then .clash else if last then .sentOk else .none
  | .start | .covered | .pace _ => if x = b then .none else .clash

/-- SENDING: the link reads back what it sends and assembles it as a receiver would (R51). -/
def LinkCtl.trackSending (k : LinkCtl) (b : Level) : LinkCtl × WireEvent :=
  ({ k with
      assembly := k.assembly.push b
      item := k.item.map fun it => { it with rest := it.rest.tail } },
    senderEvent k.assembly.next k.drives b)

/-- RECEIVING (R54, R55). -/
def LinkCtl.trackReceiving (k : LinkCtl) (b : Level) : LinkCtl × WireEvent :=
  ({ k with assembly := k.assembly.push b },
    match k.assembly.verdict b with
    | .more => .none
    | .shape => .shape
    | .check => .check
    | .good => .receivedOk)

/-- MARKING: eight bit-times, whatever is read (R57). -/
def LinkCtl.trackMarking (k : LinkCtl) : LinkCtl × WireEvent :=
  ({ k with markBits := k.markBits + 1 }, if k.markBits + 1 = 8 then .markEnd else .none)

/-- One bit-time in a phase, the dominant run apart. -/
def LinkCtl.trackPhase (k : LinkCtl) (b : Level) : LinkCtl × WireEvent :=
  match k.phase with
  | .gapWait => k.trackGapWait b
  | .idle => k.trackIdle b
  | .sending => k.trackSending b
  | .receiving => k.trackReceiving b
  | .marking => k.trackMarking
  | .detached => (k, .none)

/-- One bit-time read at level `b`: the dominant run (R58) comes before anything else, and a link that is DETACHED
reads its line only in QUIET (R46). -/
def LinkCtl.track (k : LinkCtl) (b : Level) : LinkCtl × WireEvent :=
  if k.phase = .detached then
    if k.mode = .quiet then k.trackQuiet b else (k, .none)
  else if b = .dominant ∧ k.dominantRun + 1 = 48 then
    ({ k with dominantRun := 0 }, .stuck)
  else
    LinkCtl.trackPhase { k with dominantRun := if b = .dominant then k.dominantRun + 1 else 0 } b

/-- The levels read since the last event of the link: nothing comes about before the last of them, and the answer is the
link as it then stands with what the last one brings about. -/
def LinkCtl.advance (k : LinkCtl) (bs : List Level) : Option (LinkCtl × WireEvent) :=
  match bs with
  | [] => none
  | [b] => some (k.track b)
  | b :: bs =>
    match k.track b with
    | (k', .none) => k'.advance bs
    | _ => none

end Sys2Proof.Machine
end

