-- ==== Sys2Proof/Machine/Ops.lean ====
section
/-! DEFINITION. The operations that many commands share: internal requests and the queue of the Memory Master
(spec/01_the_memory_path.md 1.8), the send queue, the taking of its head and the poll sender (spec/04_sending.md). -/

namespace Sys2Proof.Machine

/-! ### The Memory Master -/

/-- The place of a producer among those that submit at one event (R18). -/
def Purpose.rank (p : Purpose) : Nat :=
  match p with
  | .planRead _ _ => 0
  | .ringBody | .ringMarker => 1
  | .fetch l _ _ => 2 + l.val
  | .repeaterRead _ _ => 4

/-- A producer submits a request at the event being taken (R18). -/
def State.submit (s : State) (r : Request) : State :=
  s.modPath fun p => { p with staged := p.staged ++ [r] }

/-- One request joins the queue if it has room and nobody waits, and the wait list otherwise (R18). -/
def Path.join (p : Path) (r : Request) : Path :=
  if p.queue.length < 8 ∧ p.waitList = [] then { p with queue := p.queue ++ [r] }
  else { p with waitList := p.waitList ++ [r] }

/-- The requests of one event in the order they join (R18): by producer, a producer's own in the order submitted. -/
def joinOrder (rs : List Request) : List Request :=
  (List.range 5).flatMap fun k => rs.filter fun r => r.purpose.rank == k

/-- The end of an event: what was submitted joins the queue or the wait list (R18). -/
def State.commit (s : State) : State :=
  s.modPath fun p => (joinOrder p.staged).foldl Path.join { p with staged := [] }

/-- The completion of an internal transfer that was answered MEMERR is counted and raises MEMORY (R20). -/
def State.countMemErr (s : State) (code : DownCode) : State :=
  match code with
  | .okay => s
  | .other => (s.bump .memoryErrors).raise .memory

/-- The internal transfer that a downstream response answers (R14, R19), if one is in flight there and the response has
its words: a read answered OKAY brings one word for each beat, and any other answer brings none that counts (log 27). -/
def Path.answered (p : Path) (nth : Nat) (code : DownCode) (words : Nat) : Option Request :=
  match p.inFlight[nth]? with
  | none => none
  | some r => if r.isWrite ∨ code = .other ∨ words = r.beats then some r else none

/-- The internal transfer `nth` is no longer in flight. -/
def State.complete (s : State) (nth : Nat) (code : DownCode) : State :=
  (s.modPath fun p => { p with inFlight := p.inFlight.eraseIdx nth }).countMemErr code

/-! ### Commands and the reset -/

/-- A command's effect at the end of its event; while RESET_N is asserted it has none (R22, R139, R158, R170, log 7). -/
def State.event (s : State) (f : State → State) : State :=
  if s.inReset then s else (f s).commit

/-! ### The send queue (R75) -/

/-- `a` stands before `b` (R75): by priority, then by age behind the acceptance count. -/
def QueueItem.before (count : Word) (a b : QueueItem) : Bool :=
  b.priority < a.priority ||
    (a.priority == b.priority && (count - b.acceptance).toNat < (count - a.acceptance).toNat)

/-- An item joins at the place its priority and acceptance number give (R75). -/
def insertItem (count : Word) (x : QueueItem) (q : List QueueItem) : List QueueItem :=
  match q with
  | [] => [x]
  | y :: ys => if x.before count y then x :: y :: ys else y :: insertItem count x ys

/-- The queue without an item. -/
def dropItem (r : ItemRef) (q : List QueueItem) : List QueueItem := q.filter fun x => x.ref != r

/-- An item joins the queue. -/
def SendCtl.join (c : SendCtl) (x : QueueItem) : SendCtl :=
  { c with queue := insertItem c.acceptCount x c.queue }

/-- The acceptance count advances (R75). -/
def SendCtl.advanceCount (c : SendCtl) : SendCtl := { c with acceptCount := c.acceptCount + 1 }

/-- One slot of the controller changed. -/
def SendCtl.modSlot (c : SendCtl) (i : SlotId) (f : Slot → Slot) : SendCtl :=
  { c with slots := update c.slots i f }

/-- The message a slot sends (R76): an answering slot sends a REPLY of its armed Tag. -/
def Slot.message (sl : Slot) : Message :=
  match sl.body with
  | none => ⟨0, .data, 0, []⟩
  | some b =>
    let kind := if sl.purpose = .answer then .reply else b.kind
    ⟨if sl.purpose = .answer then sl.armedTag.getD b.tag else b.tag, kind, b.length,
      if kind = .ask then [] else b.payload.take b.length⟩

/-- The message of an item (R76); a poll ASK has Length 16. -/
def SendCtl.message (c : SendCtl) (r : ItemRef) : Message :=
  match r with
  | .slot i => (look c.slots i).message
  | .poll => ⟨(c.pollAsk.map (·.tag)).getD 0, .ask, 16, []⟩

/-- The link may take the head of its send queue at this event (R51 in RUN, R64 in MIRROR). -/
def LinkCtl.canTake (k : LinkCtl) : Bool :=
  (k.mode == .run && k.phase == .idle && k.health != .silent) ||
    (k.mode == .mirror && k.mirrorGap && k.item.isNone)

/-- The head that a link takes from its Send Controller, if it takes one. -/
def LinkCtl.takes (k : LinkCtl) (c : SendCtl) : Option QueueItem := if k.canTake then c.queue.head? else none

/-- The link with the item on the wire (R51): in RUN it begins sending, in MIRROR the line is not used (R64). -/
def LinkCtl.withItem (k : LinkCtl) (m : Message) (r : ItemRef) : LinkCtl :=
  { k with
    item := some ⟨r, m, if k.mode = .mirror then [] else m.levels, true⟩
    phase := if k.mode = .mirror then k.phase else .sending
    assembly := Assembly.empty }

/-- The link after it had the chance to take the head. -/
def LinkCtl.takeHead (k : LinkCtl) (c : SendCtl) : LinkCtl :=
  match k.takes c with
  | none => k
  | some x => k.withItem (c.message x.ref) x.ref

/-- The item goes on the wire (R76): a slot becomes ON_WIRE, the poll sender's ASK is on the wire. -/
def SendCtl.putOnWire (c : SendCtl) (r : ItemRef) : SendCtl :=
  match r with
  | .slot i => c.modSlot i fun sl => { sl with state := .onWire }
  | .poll => { c with pollAsk := c.pollAsk.map fun a => { a with onWire := true } }

/-- The Send Controller after its link had the chance to take the head. -/
def SendCtl.giveHead (c : SendCtl) (k : LinkCtl) : SendCtl :=
  match k.takes c with
  | none => c
  | some x => { c with queue := c.queue.tail }.putOnWire x.ref

/-- The head of the send queue goes on the wire if the link may take it now (R51, R64, R76). -/
def State.kick (s : State) (l : LinkId) : State :=
  { s with
    links := update s.links l fun k => k.takeHead (s.sender l)
    senders := update s.senders l fun c => c.giveHead (s.link l) }

/-- A slot's message joins the send queue. -/
def SendCtl.enqueueSlot (c : SendCtl) (i : SlotId) : SendCtl :=
  let sl := look c.slots i
  c.join ⟨.slot i, (sl.body.map (·.priority)).getD 0, sl.acceptance⟩

/-! ### The poll sender (R84) -/

/-- The poll entry that the poll sender takes now: the head of the request queue, if it holds no ASK. -/
def State.pollTakes (s : State) (l : LinkId) : Option PollId :=
  if (s.sender l).pollAsk.isNone then (s.pollQueue l).head? else none

/-- The poll sender's ASK for an entry enqueued (R84) under the poll priority of the plan in force (R75). -/
def SendCtl.enqueueAsk (c : SendCtl) (p : PollId) (tag : Tag) (priority : Nat) : SendCtl :=
  let c := c.advanceCount
  { c with pollAsk := some ⟨p, tag, priority, c.acceptCount, 0, false, false, false⟩ }.join
    ⟨.poll, priority, c.acceptCount⟩

/-- The poll sender takes the head of its request queue if it holds no ASK (R84), and the ASK may go on the wire at the
same event. -/
def State.pollTake (s : State) (l : LinkId) : State :=
  let taken := s.pollTakes l
  State.kick
    { s with
      senders := update s.senders l fun c =>
        match taken with
        | none => c
        | some p => c.enqueueAsk p (((s.pollSettings p).map (·.tag)).getD 0) (s.linkSettings l).pollPriority
      poll := { s.poll with
        queues := update s.poll.queues l fun q => if taken.isSome then q.tail else q } } l

/-- The condition under which a poll entry is queued (R108, R110), with its link. -/
def State.pollMayQueue (s : State) (p : PollId) : Option LinkId :=
  match s.pollSettings p with
  | none => none
  | some set =>
    let st := (s.pollEntry p).state
    if set.mode = .ask ∧ st ≠ .queued ∧ st ≠ .waiting ∧ (s.link set.link).mode ≠ .setup then some set.link
    else none

/-- A poll entry is queued if it may be (R108, R110): it becomes QUEUED, joins the tail of its link's request queue, and
the poll sender may take it at once. -/
def State.queuePoll (s : State) (p : PollId) : State :=
  match s.pollMayQueue p with
  | none => s
  | some l =>
    ((s.modPoll p fun e => { e with state := .queued }).modPollQueue l fun q => q ++ [p]).pollTake l

end Sys2Proof.Machine
end

