-- ==== Sys2Proof/Machine/Sending.lean ====
section
/-! DEFINITION. The Send Controllers (spec/04_sending.md): acceptance of requests, fetches, aborts, outcomes on the wire,
standing answers and alarm requests. -/

namespace Sys2Proof.Machine

/-! ### Slots -/

/-- The states whose entry raises cause SENT (R69). -/
def SlotState.ended (st : SlotState) : Bool := st == .sent || st == .failed || st == .aborted

/-- The states in which the zone may write the host fields and SEND or ANSWER is accepted (R70, R74). -/
def SlotState.free (st : SlotState) : Bool := st == .idle || st.ended

/-- The states in which a slot is owned (Table 4-2). -/
def SlotState.owned (st : SlotState) : Bool := st == .fetching || st == .queued || st == .onWire

/-- The slot is answering (Table 4-2). -/
def Slot.answering (sl : Slot) : Bool := sl.purpose == .answer && sl.armedTag.isSome && sl.state.owned

/-- The slot holds this armed Tag (R81). -/
def Slot.standsWith (sl : Slot) (t : Tag) : Bool := sl.armedTag == some t

/-- A slot goes to a state in which it holds no fetch and no body (R68): its abort mark is cleared, and its armed Tag is
kept in ARMED only. -/
def Slot.settle (sl : Slot) (st : SlotState) : Slot :=
  { sl with
    state := st
    abortMark := false
    armedTag := if st = .armed then sl.armedTag else none
    fetch := none
    body := none }

/-- A slot becomes FAILED for a reason (R68). -/
def Slot.fail (sl : Slot) (r : FailReason) : Slot := { sl.settle .failed with failReason := r }

/-- What an acceptance sets (R70, R71, R83). -/
def Slot.accept (sl : Slot) (p : SlotPurpose) (n : Word) : Slot :=
  { sl with
    purpose := p
    attempts := 0
    answers := if p = .answer then 0 else sl.answers
    abortMark := false
    failReason := .none
    acceptance := n }

/-- A new fetch is opened (R70). -/
def Slot.openFetch (sl : Slot) (fetch : Nat) : Slot := { sl with state := .fetching, fetch := some fetch }

/-- What an abort does to a slot (Table 4-3). -/
def Slot.abort (sl : Slot) : Slot :=
  match sl.state with
  | .fetching | .queued => sl.settle .aborted
  | .onWire => { sl with abortMark := true }
  | .armed => sl.settle .idle
  | .idle | .sent | .failed | .aborted => sl

/-- A slot becomes ABORTED when it is aborted (Table 4-3). -/
def Slot.aborts (sl : Slot) : Bool := sl.state == .fetching || sl.state == .queued

/-! ### Accepted requests (R70, R71, R73) -/

/-- Accepts a request for a slot: the acceptance count advances, and the slot takes what the acceptance sets and then
what `f` does. -/
def SendCtl.acceptSlot (c : SendCtl) (i : SlotId) (p : SlotPurpose) (f : Slot → Slot) : SendCtl :=
  let c := c.advanceCount
  c.modSlot i fun sl => f (sl.accept p c.acceptCount)

/-- Accepts a request for a slot and opens a fetch. -/
def SendCtl.acceptFetch (c : SendCtl) (i : SlotId) (p : SlotPurpose) : SendCtl :=
  { c.acceptSlot i p fun sl => sl.openFetch c.fetchSerial with fetchSerial := c.fetchSerial + 1 }

/-- An accepted SEND or ANSWER whose slot would become FETCHING (R70, R71): in SETUP it becomes ABORTED instead (R73). -/
def State.requestFetch (s : State) (l : LinkId) (i : SlotId) (p : SlotPurpose) : State :=
  let setup := (s.link l).mode == Mode.setup
  (s.modSender l fun c =>
    if setup then c.acceptSlot i p fun sl => sl.settle .aborted else c.acceptFetch i p).raiseIf setup .sent

/-- The follow-on notice of that fetch, none where it is not opened (R73). -/
def State.fetchNotice (s : State) (l : LinkId) (i : SlotId) : List Notice :=
  if (s.link l).mode = .setup then [] else [.fetch l i (s.sender l).fetchSerial]

/-- An accepted ANSWER whose Tag stands in its own transfer (R71): ARMED at once, or IDLE in SETUP (R73). -/
def State.armNow (s : State) (l : LinkId) (i : SlotId) (t : Tag) : State :=
  s.modSender l fun c => c.acceptSlot i .answer fun sl =>
    { sl with armedTag := some t }.settle (if (s.link l).mode = Mode.setup then .idle else .armed)

/-! ### Fetches (R74) -/

/-- A slot's record is read by one internal read of 8 beats at its place in the POST window (R74); with no window there
is no such place and nothing is read (log 31). -/
def State.submitFetch (s : State) (l : LinkId) (i : SlotId) (fetch : Nat) : State :=
  match s.plan.windowAddr (.post l) (slotOffset i) with
  | none => s
  | some a => s.submit ⟨.fetch l i fetch, false, a, 8, []⟩

/-- The slot still waits for this fetch (R74). -/
def Slot.awaits (sl : Slot) (fetch : Nat) : Bool := sl.state == .fetching && sl.fetch == some fetch

/-- A fetch notice is delivered (R74). -/
def State.fetchNoticed (s : State) (l : LinkId) (i : SlotId) (fetch : Nat) : State :=
  if (s.slot l i).awaits fetch then s.submitFetch l i fetch else s

/-- The host fields of a fetched record (Table 11-11), or none if the body is not valid (R74). -/
def fetchedBody (ws : List Word) : Option Body :=
  let bs := ws.flatMap bytesOf
  let flags := (bs.getD 12 0).toNat
  let len := (bs.getD 13 0).toNat
  match kindOf (flags / 16 % 4) with
  | none => none
  | some k =>
    if len ≤ 16 then
      some ⟨flags % 4, k, len, BitVec.ofNat 16 (leNat ((bs.drop 14).take 2)), (bs.drop 16).take 16⟩
    else none

/-- The Tag field of a fetched record, whatever the rest of it holds (Table 4-4 "Arming ANSWER"). -/
def fetchedTag (ws : List Word) : Tag := BitVec.ofNat 16 (leNat (((ws.flatMap bytesOf).drop 14).take 2))

/-- The body a fetch can queue: valid, and not an ASK for an answer (R74). -/
def Slot.usableBody (sl : Slot) (ws : List Word) : Option Body :=
  (fetchedBody ws).filter fun b => !(sl.purpose == .answer && b.kind == .ask)

/-- A slot takes the completion of its open fetch (Table 4-4). -/
def Slot.fetched (sl : Slot) (code : DownCode) (ws : List Word) : Slot :=
  match code, sl.purpose, sl.armedTag with
  | .other, .answer, some _ => sl.settle .armed
  | .other, _, _ => sl.fail .memory
  | .okay, .answer, none => { sl with armedTag := some (fetchedTag ws) }.settle .armed
  | .okay, _, _ =>
    match sl.usableBody ws with
    | none => sl.fail .body
    | some b => { sl with state := .queued, fetch := none, body := some b }

/-- A Send Controller after a slot has changed: a slot that is now QUEUED joins the send queue. -/
def SendCtl.changeSlot (c : SendCtl) (i : SlotId) (f : Slot → Slot) : SendCtl :=
  let c := c.modSlot i f
  if (look c.slots i).state = .queued then c.enqueueSlot i else c

/-- A slot that was FETCHING or ON_WIRE changes: it joins the send queue if it is now QUEUED (R75), and its entering
SENT, FAILED or ABORTED raises cause SENT (R69). -/
def State.changeSlot (s : State) (l : LinkId) (i : SlotId) (f : Slot → Slot) : State :=
  (s.modSender l fun c => c.changeSlot i f).raiseIf (f (s.slot l i)).state.ended .sent

/-- The completion of a fetch (R74): discarded unless it is the slot's open one; a slot that joins the queue may go on the
wire at the same event (R51). -/
def State.fetchCompleted (s : State) (l : LinkId) (i : SlotId) (fetch : Nat) (code : DownCode)
    (ws : List Word) : State :=
  if (s.slot l i).awaits fetch then (s.changeSlot l i fun sl => sl.fetched code ws).kick l else s

/-! ### Aborts (R72, R79, R80) -/

/-- ABORT of one slot (R72). -/
def State.abortSlot (s : State) (l : LinkId) (i : SlotId) : State :=
  (s.modSender l fun c =>
    { c with
      slots := update c.slots i Slot.abort
      queue := if (look c.slots i).state = .queued then dropItem (.slot i) c.queue else c.queue }).raiseIf
    (s.slot l i).aborts .sent

/-- The poll entry whose ASK stands in the send queue. -/
def SendCtl.queuedAsk (c : SendCtl) : Option PollId :=
  match c.pollAsk with
  | none => none
  | some a => if a.onWire then none else some a.entry

/-- The poll ASK after an abort of everything (R79): removed from the send queue, or marked on the wire. -/
def PollAsk.abort (a : PollAsk) : Option PollAsk := if a.onWire then some { a with abortMark := true } else none

/-- Every slot, the queue and the poll sender of a link aborted (R79, R80). -/
def SendCtl.abortAll (c : SendCtl) : SendCtl :=
  { c with
    slots := c.slots.map Slot.abort
    queue := []
    pollAsk := c.pollAsk.bind PollAsk.abort }

/-- A poll entry is given up (R111, R116): its value, its stamp and its stale flag are kept. -/
def PollEntry.unsent (e : PollEntry) : PollEntry := { e with state := .unsent }

/-- Abort-all (R79, R116), and what entering SETUP does to the Send Controller and the Poll Unit (R80, R116): at the
entry nothing of the link is on the wire, so the two do the same. -/
def State.abortSends (s : State) (l : LinkId) : State :=
  let gone (p : PollId) : Bool := (s.pollQueue l).contains p || (s.sender l).queuedAsk == some p
  State.raiseIf
    { s with
      senders := update s.senders l SendCtl.abortAll
      poll :=
        { entries := updateAll s.poll.entries fun p e => if gone p then e.unsent else e
          queues := update s.poll.queues l fun _ => [] } }
    ((s.sender l).slots.toList.any Slot.aborts) .sent

/-! ### Outcomes on the wire (R77, R78, R82, R85) -/

/-- An outcome handed by a Link Controller (04_sending.md 4.5). -/
inductive Outcome where
  | sent | lost | error
  deriving DecidableEq, Repr

/-- The attempts after an outcome (R77). -/
def Outcome.attempts (o : Outcome) (n : BitVec 8) : BitVec 8 := if o = .error then satInc n else n

/-- Under a retry limit, a message with these attempts may be sent again (R77); 15 is unlimited. -/
def retryAllows (limit : Nat) (attempts : BitVec 8) : Bool := limit == 15 || attempts.toNat ≤ limit

/-- A slot rejoins the send queue (R77): it keeps its body, its acceptance number and its attempts. -/
def Slot.requeue (sl : Slot) : Slot := { sl with state := .queued }

/-- An answer sent and confirmed is counted (R78, R82). -/
def Slot.countAnswer (sl : Slot) : Slot :=
  { sl with answers := if sl.purpose = .answer then satInc sl.answers else sl.answers }

/-- A slot whose message is given up after an error (R77, R82). -/
def Slot.giveUp (sl : Slot) : Slot := if sl.purpose = .answer then sl.settle .armed else sl.fail .retries

/-- A slot takes the outcome of its message (Tables 4-5, 4-6 and 4-8). -/
def Slot.outcome (sl : Slot) (limit : Nat) (o : Outcome) : Slot :=
  let sl := { sl with attempts := o.attempts sl.attempts }
  if sl.abortMark then
    match o with
    | .sent => sl.countAnswer.settle .sent
    | .lost | .error => sl.settle .aborted
  else
    match o with
    | .sent => sl.countAnswer.settle (if sl.purpose = .answer then .armed else .sent)
    | .lost => sl.requeue
    | .error => if retryAllows limit sl.attempts then sl.requeue else sl.giveUp

/-- A poll ASK may rejoin the send queue after an outcome (Table 4-9). -/
def PollAsk.rejoins (a : PollAsk) (limit : Nat) (o : Outcome) : Bool :=
  !a.abandoned && !a.abortMark &&
    match o with
    | .sent => false
    | .lost => true
    | .error => retryAllows limit (o.attempts a.attempts)

/-- The Send Controller after a poll ASK's outcome (Table 4-9). -/
def SendCtl.askOutcome (c : SendCtl) (limit : Nat) (o : Outcome) : SendCtl :=
  match c.pollAsk with
  | none => c
  | some a =>
    if a.rejoins limit o then
      { c with pollAsk := some { a with attempts := o.attempts a.attempts, onWire := false } }.join
        ⟨.poll, a.priority, a.acceptance⟩
    else { c with pollAsk := none }

/-- A poll entry whose ASK was sent and confirmed (R111). -/
def PollEntry.waits (e : PollEntry) (expiry : Stamp) : PollEntry :=
  { e with state := .waiting, askCount := satInc e.askCount, replyTimer := some expiry }

/-- What a poll ASK's outcome makes of its entry (R85, R111); `expiry` is where its reply timer would expire. -/
def PollAsk.entryAfter (a : PollAsk) (limit : Nat) (o : Outcome) (expiry : Stamp) (e : PollEntry) : PollEntry :=
  if a.abandoned then e
  else if o = .sent then e.waits expiry
  else if a.rejoins limit o then e
  else e.unsent

/-- The reply timeout of an entry in the plan in force. -/
def State.replyTimeout (s : State) (p : PollId) : Nat := ((s.pollSettings p).map (·.replyTimeout)).getD 0

/-- The outcome of a poll ASK (R85): the Poll Unit applies it (R111), and a poll sender that holds none takes the next
entry (R84). -/
def State.askOutcome (s : State) (l : LinkId) (o : Outcome) : State :=
  let limit := (s.linkSettings l).retryLimit
  match (s.sender l).pollAsk with
  | none => s
  | some a =>
    State.pollTake
      { s with
        senders := update s.senders l fun c => c.askOutcome limit o
        poll := { s.poll with
          entries := update s.poll.entries a.entry
            (a.entryAfter limit o (later s.now (s.replyTimeout a.entry))) } } l

/-- The outcome of the item on the wire is handed to the Send Controller (04_sending.md 4.5). -/
def State.itemOutcome (s : State) (l : LinkId) (r : ItemRef) (o : Outcome) : State :=
  match r with
  | .slot i => s.changeSlot l i fun sl => sl.outcome (s.linkSettings l).retryLimit o
  | .poll => s.askOutcome l o

/-! ### Standing answers (R81) -/

/-- The slots that satisfy a condition, lowest first. -/
def SendCtl.findSlot (c : SendCtl) (f : Slot → Bool) : Option SlotId :=
  (List.finRange 8).find? fun i => f (look c.slots i)

/-- The slot that consumes an ASK (R81): the lowest ARMED one of its Tag. -/
def SendCtl.armedFor (c : SendCtl) (t : Tag) : Option SlotId :=
  c.findSlot fun sl => sl.state == .armed && sl.standsWith t

/-- Some slot is answering an ASK of this Tag (R81). -/
def SendCtl.answeringFor (c : SendCtl) (t : Tag) : Bool :=
  (c.findSlot fun sl => sl.answering && sl.standsWith t).isSome

/-- The ASK is consumed at routing step 2 (R81, R87). -/
def SendCtl.consumes (c : SendCtl) (t : Tag) : Bool := (c.armedFor t).isSome || c.answeringFor t

/-- A slot starts answering (R81): the attempts become 0, and the acceptance count gives its number. -/
def SendCtl.startAnswer (c : SendCtl) (i : SlotId) : SendCtl :=
  let fetch := c.fetchSerial
  let c := { c.advanceCount with fetchSerial := fetch + 1 }
  c.modSlot i fun sl => { sl.openFetch fetch with attempts := 0, acceptance := c.acceptCount }

/-- An ASK that is consumed (R81). -/
def State.consumeAsk (s : State) (l : LinkId) (t : Tag) : State :=
  match (s.sender l).armedFor t with
  | some i => (s.modSender l fun c => c.startAnswer i).submitFetch l i (s.sender l).fetchSerial
  | none => s.bump (.link l .mergedAsks)

/-! ### Alarm requests (R83) -/

/-- The Send Controller accepts an alarm request (R83). -/
def State.alarmAccepted (s : State) (l : LinkId) (i : SlotId) : Bool :=
  (s.slot l i).state.free && (s.link l).mode != Mode.setup

/-- A channel's alarm request (R83), made if its settings name a slot: accepted with its fetch submitted at once, or merged. -/
def State.alarmRequest (s : State) (ch : ChanId) : State :=
  match (s.driveSettings ch).bind (·.alarm) with
  | none => s
  | some (l, i) =>
    if s.alarmAccepted l i then
      (s.modSender l fun c => c.acceptFetch i .alarm).submitFetch l i (s.sender l).fetchSerial
    else s.bump (.alarmsMerged ch)

end Sys2Proof.Machine
end

