-- ==== Sys2Proof/Machine/Protect.lean ====
section
/-! DEFINITION. The Protection Unit with what it does to a channel (spec/08_trips_and_interlocks.md; spec/07_drive_channels.md
R137): interlocks, stops, trips, the over-current detector, the anchor watch. -/

namespace Sys2Proof.Machine

/-! ### Channel states (R120) -/

/-- Driving, in which direction (Table 7-2). -/
def ChanState.driven (st : ChanState) : Option Dir :=
  match st with
  | .driveOut => some .outward
  | .driveIn => some .inward
  | .safe | .ready | .stopping | .tripped => none

/-- DRIVE_OUT or DRIVE_IN (R120). -/
def ChanState.moving (st : ChanState) : Bool := st.driven.isSome

/-- SAFE, READY or TRIPPED (R120). -/
def ChanState.still (st : ChanState) : Bool := st == .safe || st == .ready || st == .tripped

/-- The over-current detector is in use (R141). -/
def ChanState.measured (st : ChanState) : Bool := st.moving || st == .stopping

/-- Dn_OUT, Dn_IN and the duty on Dn_EN (Table 7-2). -/
def Channel.outputs (ch : Channel) : Bool × Bool × Nat :=
  match ch.state.driven with
  | some .outward => (true, false, ch.duty)
  | some .inward => (false, true, ch.duty)
  | none => (false, false, 0)

/-- The level of an end switch. -/
def Channel.endActive (ch : Channel) (d : Dir) : Bool :=
  match d with
  | .outward => ch.endOut
  | .inward => ch.endIn

/-! ### Interlocks (R150 to R152) -/

/-- A VALUE condition on a poll entry (Table 8-4). -/
def PollEntry.meets (e : PollEntry) (byte : Nat) (mask expected : Byte) : Bool :=
  match e.value with
  | none => false
  | some v =>
    !e.stale &&
      match v[byte]? with
      | none => false
      | some b => b &&& mask == expected

/-- A condition is met (Table 8-4). -/
def State.condMet (s : State) (c : Condition) : Bool :=
  match c with
  | .atEnd ch d => (s.chan ch).endActive d
  | .still ch => (s.chan ch).state.still
  | .value p byte mask expected => (s.pollEntry p).meets byte mask expected

/-- A guard's direction covers a direction (R150). -/
def GuardDir.covers (g : GuardDir) (d : Dir) : Bool :=
  match g with
  | .only e => e == d
  | .both => true

/-- The guards of a channel's direction in the plan in force (R150). -/
def State.guardsOf (s : State) (c : ChanId) (d : Dir) : List Interlock :=
  (s.plan.interlocks.toList.filterMap id).filter fun k => k.guarded == c && k.direction.covers d

/-- Every guard of a channel's direction is met (R151). -/
def State.guardsMet (s : State) (c : ChanId) (d : Dir) : Bool :=
  (s.guardsOf c d).all fun k => s.condMet k.condition

/-- The result of every interlock as the conditions now stand (R150). -/
def State.guardResults (s : State) : Vector (Option Bool) 8 :=
  s.plan.interlocks.map fun k => k.map fun i => s.condMet i.condition

/-- A moving channel with an unmet guard of its driven direction (R152). -/
def State.unguarded (s : State) (c : ChanId) : Bool :=
  match (s.chan c).state.driven with
  | none => false
  | some d => !s.guardsMet c d

/-! ### Stops (R137) -/

/-- Reasons that raise cause STOPPED (R137). -/
def StopReason.raises (r : StopReason) : Bool :=
  match r with
  | .end_ | .softLimit | .interlock | .holdLapse => true
  | .none | .command | .atTarget | .disabled | .trip => false

/-- The stop dwell of a channel's settings. -/
def State.stopDwell (s : State) (c : ChanId) : Nat := ((s.driveSettings c).map (·.stopDwell)).getD 0

/-- A motion ends into STOPPING (R137). -/
def Channel.stop (ch : Channel) (r : StopReason) (dwellEnd : Stamp) : Channel :=
  { ch with state := .stopping, motion := none, duty := 0, stopReason := r, dwellEnd := some dwellEnd }

/-- A channel at rest in a state (R132, R138, R145, R149): no motion, no dwell, every output off. -/
def Channel.rest (ch : Channel) (st : ChanState) : Channel :=
  { ch with state := st, motion := none, duty := 0, dwellEnd := none }

/-- The measurements that end with a motion (R143, R144, R154). -/
def Protection.endMotion (k : Protection) : Protection :=
  { k with stallExpiry := none, runExpiry := none, holdExpiry := none }

/-- Every measurement ends, and the detector is armed for the next motion (R141). -/
def Protection.rest (k : Protection) : Protection := { k.endMotion with onset := none, armed := true }

/-- The interlocks are judged afresh, and every moving channel with an unmet guard stops with INTERLOCK (R152). Every
condition is judged, not only those that name what changed (log 25). -/
def State.reevaluate (s : State) : State :=
  State.raiseIf
    { s with
      guards := s.guardResults
      chans := updateAll s.chans fun c ch =>
        if s.unguarded c then ch.stop .interlock (later s.now (s.stopDwell c)) else ch
      prots := updateAll s.prots fun c k => if s.unguarded c then k.endMotion else k }
    ((List.finRange 3).any s.unguarded) .stopped

/-- The motion of a moving channel ends with a reason (R137); the guards that name the channel are judged afresh. -/
def State.stopMotion (s : State) (c : ChanId) (r : StopReason) : State :=
  if (s.chan c).state.moving then
    (({ s with
        chans := update s.chans c fun ch => ch.stop r (later s.now (s.stopDwell c))
        prots := update s.prots c Protection.endMotion }).raiseIf r.raises .stopped).reevaluate
  else s

/-! ### Trips (R145, R146) -/

/-- The trip record created at a trip (Table 8-2). -/
def State.tripRecord (s : State) (c : ChanId) (cause : TripCause) : TripRecord :=
  let ch := s.chan c
  let ran := ch.state.measured
  { cause := cause
    dir := if ch.state = .stopping then ch.lastDir else ch.state.driven
    source := if ran then ch.source else .none
    stamp := s.now
    position := ch.position
    peak := if ran then (s.prot c).peak else ch.current
    later := 0 }

/-- A trip record that a later trip reaches (R146). -/
def TripRecord.again (t : TripRecord) : TripRecord := { t with later := satInc t.later }

/-- A trip on a channel that is READY, moving or STOPPING (R145). Its measurements end (step 2), so a stall or run-time
expiry that came together with this trip is not due afterwards and counts nothing (log 35). -/
def State.takeTrip (s : State) (c : ChanId) (cause : TripCause) : State :=
  let record := s.tripRecord c cause
  ((({ s with
        chans := update s.chans c fun ch => { ch.rest .tripped with stopReason := .trip }
        prots := update s.prots c fun k => { k.rest with trip := some record } }).raise .trip).alarmRequest
    c).reevaluate

/-- A trip event reaches a channel (R145, R146): it is discarded in SAFE and counted in TRIPPED. -/
def State.trip (s : State) (c : ChanId) (cause : TripCause) : State :=
  match (s.chan c).state with
  | .safe => s
  | .tripped => s.modProt c fun k => { k with trip := k.trip.map TripRecord.again }
  | .ready | .driveOut | .driveIn | .stopping => s.takeTrip c cause

/-! ### The over-current detector (R141, R142) -/

/-- A conversion at the detector in use (R141, R145); `above` says that it exceeds the threshold. -/
def Protection.convert (k : Protection) (v : Current) (above : Bool) (now : Stamp) : Protection :=
  { k with
    peak := if k.peak.toNat < v.toNat then v else k.peak
    onset := if above then (if k.armed && k.onset.isNone then some now else k.onset) else none
    armed := k.armed || !above }

/-- A current above the trip threshold of the channel's settings. -/
def State.aboveThreshold (s : State) (c : ChanId) (v : Current) : Bool :=
  match s.driveSettings c with
  | none => false
  | some set => set.tripThreshold < v.toNat

/-- The over-current event of a channel is due (R141). -/
def State.overcurrentDue (s : State) (c : ChanId) : Bool :=
  (s.chan c).state.measured &&
    match s.driveSettings c, (s.prot c).onset with
    | some set, some o => reached s.now (later o set.tripFilter)
    | _, _ => false

/-- A warning (R142): the onset is removed and the detector disarmed. -/
def State.warn (s : State) (c : ChanId) : State :=
  ((s.modProt c fun k => { k with onset := none, armed := false }).bump (.warnings c)).raise .currentWarn

/-- An over-current event (R142). -/
def State.overcurrent (s : State) (c : ChanId) : State :=
  match s.driveSettings c with
  | none => s
  | some set =>
    match set.tripMode with
    | .warn => s.warn c
    | .cut => s.trip c .overcurrent

/-! ### The anchor watch (R156, R157) -/

/-- The channel of the anchor windlass. -/
def windlass : ChanId := 0

/-- A motion command accepted on D0 sets the watch to OFF (R156). -/
def State.watchOffByMotion (s : State) (c : ChanId) : State :=
  s.modProt c fun k => { k with watch := if c = windlass then .off else k.watch }

/-- An undriven pulse counted under a watch (R157). -/
def Protection.creeps (k : Protection) : Protection :=
  { k with creep := if k.watch = .off then k.creep else satInc k.creep }

/-- The watch of a channel alarms at its present creep count (R157). -/
def State.watchExceeded (s : State) (c : ChanId) : Bool :=
  (s.prot c).watch == .on &&
    match s.driveSettings c with
    | none => false
    | some set => set.watchLimit < (s.prot c).creep.toNat

/-- An undriven pulse reaches the anchor watch of D0 (R157). -/
def State.watchPulse (s : State) (c : ChanId) : State :=
  if c = windlass then
    let t := s.modProt c Protection.creeps
    if t.watchExceeded c then
      ((t.modProt c fun k => { k with watch := .alarmed }).raise .watch).alarmRequest c
    else t
  else s

/-! ### The emergency stop line (R148) -/

/-- The six orders in which three channels can be reached. -/
def chanOrder (n : Fin 6) : List ChanId :=
  match n with
  | 0 => [0, 1, 2]
  | 1 => [0, 2, 1]
  | 2 => [1, 0, 2]
  | 3 => [1, 2, 0]
  | 4 => [2, 0, 1]
  | 5 => [2, 1, 0]

/-- One assertion acts on every channel (Table 8-3), in an order. -/
def State.eslTrips (s : State) (order : List ChanId) : State :=
  order.foldl (fun t c => t.trip c .esl) { s with esl := true }

end Sys2Proof.Machine
end

