-- ==== Sys2Proof/Machine/Drive.lean ====
section
/-! DEFINITION. The Drive Controller (spec/07_drive_channels.md): commands and their checks, motion, ramp, position and
the channel inputs. -/

namespace Sys2Proof.Machine

/-! ### Commands (R124, R126) -/

/-- The nine command codes (Table 7-7). -/
inductive CmdCode where
  | enable | disable | moveOut | moveIn | goto | stop | clearTrip | watchOn | watchOff
  deriving DecidableEq, Repr

/-- The number of a command code (Table 11-18). -/
def CmdCode.code (c : CmdCode) : Byte :=
  match c with
  | .enable => 1 | .disable => 2 | .moveOut => 3 | .moveIn => 4 | .goto => 5
  | .stop => 6 | .clearTrip => 7 | .watchOn => 8 | .watchOff => 9

/-- The command code of a byte, if it is one of Table 7-7. -/
def cmdOf (b : Byte) : Option CmdCode :=
  [CmdCode.enable, .disable, .moveOut, .moveIn, .goto, .stop, .clearTrip, .watchOn, .watchOff].find?
    fun c => c.code == b

/-- A command as it is judged (7.4). -/
structure DriveCommand where
  code     : Byte
  speed    : Nat
  target   : Int
  runLimit : Nat
  deriving DecidableEq, Repr

/-- The command that the first two words of a command block hold (Table 11-14). -/
def blockCommand (w0 w1 : Word) : DriveCommand :=
  ⟨byteOf w0 0, (byteOf w0 1).toNat, w1.toInt, (w0 >>> 16).toNat⟩

/-- The command that a deck message's payload gives (R126). -/
def deckPayload (bs : List Byte) : DriveCommand :=
  ⟨bs.getD 0 0, (bs.getD 5 0).toNat, (BitVec.ofNat 32 (leNat ((bs.drop 1).take 4))).toInt, 0⟩

/-- The motion a code asks for, if it asks for one. -/
def CmdCode.motion (c : CmdCode) : Option MotionCode :=
  match c with
  | .moveOut => some .moveOut
  | .moveIn => some .moveIn
  | .goto => some .goto
  | .enable | .disable | .stop | .clearTrip | .watchOn | .watchOff => none

/-- Codes the zone alone may give (Table 7-6, check 4). -/
def CmdCode.zoneOnly (c : CmdCode) : Bool :=
  c == .enable || c == .clearTrip || c == .watchOn || c == .watchOff

/-- A deck source. -/
def CmdSource.deck (s : CmdSource) : Bool := s == .deck0 || s == .deck1

/-- The source of a deck link's commands (R126). -/
def deckSource (l : LinkId) : CmdSource := if l = 0 then .deck0 else .deck1

/-- The direction of a motion code toward a target from a position (R127); a GOTO to the position itself has none. -/
def MotionCode.direction (m : MotionCode) (target position : Int) : Option Dir :=
  match m with
  | .moveOut => some .outward
  | .moveIn => some .inward
  | .goto => if position < target then some .outward else if target < position then some .inward else none

/-! ### The checks (Table 7-6) -/

/-- Checks 3 and 4: the code and the source. -/
def checkCode (c : ChanId) (src : CmdSource) (b : Byte) : Option RefuseReason :=
  match cmdOf b with
  | none => some .badCode
  | some k =>
    if (k = .watchOn ∨ k = .watchOff) ∧ c ≠ windlass then some .badCode
    else if src.deck && k.zoneOnly then some .badSource
    else none

/-- Check 5: the fields a motion command uses. -/
def checkRange (set : Option DriveSettings) (m : MotionCode) (d : DriveCommand) : Option RefuseReason :=
  let outside := m == .goto && set.any fun k => decide (d.target < k.travelMin) || decide (k.travelMax < d.target)
  if d.speed < 10 ∨ 100 < d.speed ∨ 600 < d.runLimit ∨ outside then some .range else none

/-- A code is accepted in a state (Table 7-7). -/
def CmdCode.acceptedIn (k : CmdCode) (st : ChanState) : Bool :=
  match k with
  | .enable => st == .safe
  | .disable => st != .tripped
  | .moveOut | .moveIn | .goto => st == .ready || st.moving
  | .stop => true
  | .clearTrip => st == .tripped
  | .watchOn | .watchOff => st == .safe || st == .ready

/-- Checks 7 to 9 of a command on a moving channel, and R131's for a GOTO without a direction. -/
def checkMotion (src motionSrc : CmdSource) (k : MotionCode) (dir : Option Dir) (m : Motion) :
    Option RefuseReason :=
  if src ≠ motionSrc then some .sourceBusy
  else if dir.any fun d => d != m.dir then some .reverse
  else if k ≠ m.code then some .badState
  else none

/-- The position is at or past the limit of a direction (Table 7-6, check 11). -/
def DriveSettings.atLimit (k : DriveSettings) (d : Dir) (position : Int) : Bool :=
  match d with
  | .outward => k.travelMax ≤ position
  | .inward => position ≤ k.travelMin

/-- Check 11: the end toward which a motion would start. -/
def checkEnd (set : Option DriveSettings) (ch : Channel) (d : Dir) : Option RefuseReason :=
  if ch.state = .ready ∧ (ch.endActive d || set.any fun k => k.atLimit d ch.position) then some .atEnd else none

/-- The checks of a motion command after check 6 (7 to 9, 11 and 12, and R131). -/
def State.checkStart (s : State) (c : ChanId) (src : CmdSource) (k : MotionCode) (d : DriveCommand) :
    Option RefuseReason :=
  let ch := s.chan c
  let dir := k.direction d.target ch.position
  let moving : Option RefuseReason :=
    match ch.motion with
    | none => none
    | some m => checkMotion src ch.source k dir m
  let start : Option RefuseReason :=
    match dir with
    | none => none
    | some e =>
      (checkEnd (s.driveSettings c) ch e).or (if s.guardsMet c e then none else some .interlock)
  moving.or start

/-- Check 6, the state, and check 10, the emergency stop line, of a code that asks for no motion. -/
def State.checkOther (s : State) (c : ChanId) (k : CmdCode) : Option RefuseReason :=
  if !k.acceptedIn (s.chan c).state || (k == .enable && (s.driveSettings c).isNone) then some .badState
  else if (k == .enable || k == .clearTrip) && s.esl then some .eslActive
  else none

/-- Checks 5 to 12 of a known code. -/
def State.checkKnown (s : State) (c : ChanId) (src : CmdSource) (k : CmdCode) (d : DriveCommand) :
    Option RefuseReason :=
  match k.motion with
  | none => s.checkOther c k
  | some m =>
    (checkRange (s.driveSettings c) m d).or
      (if k.acceptedIn (s.chan c).state then s.checkStart c src m d else some .badState)

/-- A command judged by checks 3 to 12 (R127); no reason means it is accepted. -/
def State.judge (s : State) (c : ChanId) (src : CmdSource) (d : DriveCommand) : Option RefuseReason :=
  (checkCode c src d.code).or
    (match cmdOf d.code with
     | none => none
     | some k => s.checkKnown c src k d)

/-- A refusal recorded (R127); a deck command's is counted. -/
def State.refuse (s : State) (c : ChanId) (src : CmdSource) (r : RefuseReason) (code : Byte) : State :=
  s.modChan c fun ch =>
    { ch with
      lastRefusal := ⟨r, code, src, s.now⟩
      refused := if src.deck then satInc ch.refused else ch.refused }

/-! ### Motion (R129 to R133) -/

/-- The duty of a motion at a stamp (R133). -/
def Motion.dutyAt (m : Motion) (now : Stamp) : Nat :=
  let ramp := elapsed m.rampEnd m.startStamp
  let ran := elapsed now m.startStamp
  if ran < ramp then m.speed * ran / ramp else m.speed

/-- The state of a channel driven in a direction (Table 7-2). -/
def driveState (d : Dir) : ChanState :=
  match d with
  | .outward => .driveOut
  | .inward => .driveIn

/-- The motion that a command creates (R129, step 1). -/
def newMotion (set : DriveSettings) (k : MotionCode) (dir : Dir) (d : DriveCommand) (now : Stamp) : Motion where
  code := k
  dir := dir
  speed := d.speed
  target := if k = .goto then some d.target else none
  runLimit := if 0 < d.runLimit then d.runLimit else set.runLimit
  startStamp := now
  rampEnd := later now set.rampTime

/-- A channel starts a motion (R129, steps 2 and 3). -/
def Channel.start (ch : Channel) (src : CmdSource) (m : Motion) (now : Stamp) : Channel :=
  { ch with
    state := driveState m.dir
    source := src
    motion := some m
    duty := m.dutyAt now
    dwellEnd := none
    stopReason := .none
    lastDir := some m.dir }

/-- What the Protection Unit starts with a motion (R141, R143, R144, R154). -/
def Protection.start (k : Protection) (set : DriveSettings) (src : CmdSource) (m : Motion) (current : Current)
    (now : Stamp) : Protection :=
  { k with
    onset := if set.tripThreshold < current.toNat then some now else none
    armed := true
    peak := current
    stallExpiry := if set.rampTime = 0 then some (later now set.stallTime) else none
    runExpiry := some (later now (m.runLimit * 1000))
    holdExpiry := if src.deck then some (later now set.holdTime) else none }

/-- A motion command accepted in READY (R129); the guards of the other moving channels are judged afresh. -/
def State.startMotion (s : State) (c : ChanId) (src : CmdSource) (k : MotionCode) (dir : Dir) (d : DriveCommand) :
    State :=
  match s.driveSettings c with
  | none => s
  | some set =>
    let m := newMotion set k dir d s.now
    State.reevaluate
      { s with
        chans := update s.chans c fun ch => ch.start src m s.now
        prots := update s.prots c fun p => p.start set src m (s.chan c).current s.now }

/-- A motion as a refresh leaves it (R130). -/
def Motion.refresh (m : Motion) (d : DriveCommand) : Motion :=
  { m with speed := d.speed, target := m.target.map fun _ => d.target }

/-- A channel refreshed (R130, R133). -/
def Channel.refresh (ch : Channel) (d : DriveCommand) (now : Stamp) : Channel :=
  match ch.motion with
  | none => ch
  | some m => { ch with motion := some (m.refresh d), duty := (m.refresh d).dutyAt now }

/-- The hold restarted by a refresh from a deck source (R130, R154). -/
def Protection.hold (k : Protection) (src : CmdSource) (expiry : Stamp) : Protection :=
  { k with holdExpiry := if src.deck then some expiry else k.holdExpiry }

/-- The hold time of a channel's settings. -/
def State.holdTime (s : State) (c : ChanId) : Nat := ((s.driveSettings c).map (·.holdTime)).getD 0

/-- A motion command accepted while the channel moves (R130). -/
def State.refreshMotion (s : State) (c : ChanId) (src : CmdSource) (d : DriveCommand) : State :=
  { s with
    chans := update s.chans c fun ch => ch.refresh d s.now
    prots := update s.prots c fun k => k.hold src (later s.now (s.holdTime c)) }

/-- A GOTO accepted at its target (R131). -/
def State.atTarget (s : State) (c : ChanId) : State :=
  if (s.chan c).state.moving then s.stopMotion c .atTarget
  else s.modChan c fun ch => { ch with stopReason := .atTarget }

/-- An accepted motion command (R129 to R131); on D0 it sets the watch to OFF (R156). -/
def State.applyMotion (s : State) (c : ChanId) (src : CmdSource) (k : MotionCode) (d : DriveCommand) : State :=
  let t := s.watchOffByMotion c
  match k.direction d.target (s.chan c).position with
  | none => t.atTarget c
  | some dir => if (s.chan c).state.moving then t.refreshMotion c src d else t.startMotion c src k dir d

/-! ### The other commands (R128, R132, R149, R156) -/

/-- A channel goes to a state at rest: every measurement ends and the guards are judged afresh. -/
def State.toRest (s : State) (c : ChanId) (st : ChanState) : State :=
  State.reevaluate
    { s with
      chans := update s.chans c fun ch => ch.rest st
      prots := update s.prots c Protection.rest }

/-- ENABLE accepted (R128). -/
def State.applyEnable (s : State) (c : ChanId) : State := s.toRest c .ready

/-- DISABLE accepted (R132). -/
def State.applyDisable (s : State) (c : ChanId) : State :=
  (s.modChan c fun ch =>
    { ch with stopReason := if ch.state.moving then .disabled else ch.stopReason }).toRest c .safe

/-- STOP accepted (R132). -/
def State.applyStop (s : State) (c : ChanId) : State := s.stopMotion c .command

/-- CLEAR_TRIP accepted (R149). -/
def State.applyClearTrip (s : State) (c : ChanId) : State :=
  (s.modProt c fun k => { k with trip := none }).toRest c .safe

/-- WATCH_ON accepted (R156). -/
def State.applyWatchOn (s : State) (c : ChanId) : State := s.modProt c fun k => { k with watch := .on, creep := 0 }

/-- WATCH_OFF accepted (R156). -/
def State.applyWatchOff (s : State) (c : ChanId) : State := s.modProt c fun k => { k with watch := .off }

/-- The effect of an accepted command (R127). -/
def State.applyCommand (s : State) (c : ChanId) (src : CmdSource) (d : DriveCommand) : State :=
  match cmdOf d.code with
  | none => s
  | some .enable => s.applyEnable c
  | some .disable => s.applyDisable c
  | some .moveOut => s.applyMotion c src .moveOut d
  | some .moveIn => s.applyMotion c src .moveIn d
  | some .goto => s.applyMotion c src .goto d
  | some .stop => s.applyStop c
  | some .clearTrip => s.applyClearTrip c
  | some .watchOn => s.applyWatchOn c
  | some .watchOff => s.applyWatchOff c

/-- A command judged, and applied or refused (R127). -/
def State.command (s : State) (c : ChanId) (src : CmdSource) (d : DriveCommand) : State :=
  match s.judge c src d with
  | some r => s.refuse c src r d.code
  | none => s.applyCommand c src d

/-- A deck command handed over by routing (R126). -/
def State.deckCommand (s : State) (c : ChanId) (l : LinkId) (m : Message) : State :=
  if m.length < 6 then
    s.refuse c (deckSource l) .range (if 0 < m.length then m.payload.headD 0 else 0)
  else s.command c (deckSource l) (deckPayload m.payload)

/-! ### Inputs and time (R133 to R138) -/

/-- The counting direction (R134). -/
def State.counting (s : State) (c : ChanId) : Dir :=
  let ch := s.chan c
  match ch.state.driven with
  | some d => d
  | none =>
    let rest := ((s.driveSettings c).map (·.restDir)).getD .outward
    if ch.state = .stopping then ch.lastDir.getD rest else rest

/-- A position one pulse further (R134), saturating. -/
def countPulse (d : Dir) (position : Int) : Int :=
  match d with
  | .outward => if position < 2000000000 then position + 1 else position
  | .inward => if -2000000000 < position then position - 1 else position

/-- A position has reached or passed a target in a direction (R136). -/
def hasReached (d : Dir) (position target : Int) : Bool :=
  match d with
  | .outward => target ≤ position
  | .inward => position ≤ target

/-- What the new position of a moving channel ends its motion with, if anything (R136). -/
def State.arrival (s : State) (c : ChanId) : Option StopReason :=
  let ch := s.chan c
  match ch.state.driven with
  | none => none
  | some d =>
    if (ch.motion.bind (·.target)).any fun t => hasReached d ch.position t then some .atTarget
    else if (s.driveSettings c).any fun k => k.atLimit d ch.position then some .softLimit
    else none

/-- The motion ends with a reason, if there is one. -/
def State.stopIf (s : State) (c : ChanId) (r : Option StopReason) : State :=
  match r with
  | none => s
  | some r => s.stopMotion c r

/-- The stall measurement after a pulse, if it runs (R143). -/
def Protection.pulsed (k : Protection) (expiry : Stamp) : Protection :=
  { k with stallExpiry := k.stallExpiry.map fun _ => expiry }

/-- The stall time of a channel's settings. -/
def State.stallTime (s : State) (c : ChanId) : Nat := ((s.driveSettings c).map (·.stallTime)).getD 0

/-- A pulse (R134): the position, then the stall measurement and R136 in motion, the anchor watch at rest. -/
def State.pulse (s : State) (c : ChanId) : State :=
  let t : State :=
    { s with
      chans := update s.chans c fun ch => { ch with position := countPulse (s.counting c) ch.position }
      prots := update s.prots c fun k => k.pulsed (later s.now (s.stallTime c)) }
  if (s.chan c).state.moving then t.stopIf c (t.arrival c)
  else if (s.chan c).state = .stopping then t
  else t.watchPulse c

/-- The position of a re-reference (R135). -/
def State.reference (s : State) (c : ChanId) : Int := ((s.driveSettings c).map (·.travelMin)).getD 0

/-- A channel with the level of an end switch recorded. -/
def Channel.setEnd (ch : Channel) (which : Dir) (active : Bool) : Channel :=
  match which with
  | .outward => { ch with endOut := active }
  | .inward => { ch with endIn := active }

/-- An end switch changes (R135, R136): the IN switch becoming active re-references the position, the switch of the driven
direction ends the motion, and the AT_END guards are judged afresh. -/
def State.endSwitch (s : State) (c : ChanId) (which : Dir) (active : Bool) : State :=
  let references := which == .inward && active
  let t := s.modChan c fun ch =>
    { ch.setEnd which active with position := if references then s.reference c else ch.position }
  let reason : Option StopReason :=
    if active && (s.chan c).state.driven == some which then some .end_
    else if references then t.arrival c
    else none
  (t.stopIf c reason).reevaluate

/-- A conversion (R121, R141). -/
def State.convert (s : State) (c : ChanId) (v : Current) : State :=
  { s with
    chans := update s.chans c fun ch => { ch with current := v }
    prots := update s.prots c fun k =>
      if (s.chan c).state.measured then k.convert v (s.aboveThreshold c v) s.now else k }

/-- The dwell end stamp of a STOPPING channel is reached (R138). -/
def State.dwellDue (s : State) (c : ChanId) : Bool :=
  (s.chan c).state == .stopping && due s.now (s.chan c).dwellEnd

/-- The ramp end stamp of a motion is reached and its stall measurement has not started (R133, R143). -/
def State.rampDue (s : State) (c : ChanId) : Bool :=
  match (s.chan c).motion with
  | none => false
  | some m => (s.prot c).stallExpiry.isNone && reached s.now m.rampEnd

/-- The ramp end (R133, R143). -/
def State.rampEnds (s : State) (c : ChanId) : State :=
  match (s.chan c).motion with
  | none => s
  | some m =>
    { s with
      chans := update s.chans c fun ch => { ch with duty := m.speed }
      prots := update s.prots c fun k => { k with stallExpiry := some (later m.rampEnd (s.stallTime c)) } }

/-- A channel's duty at a new stamp (R133). -/
def Channel.atStamp (ch : Channel) (now : Stamp) : Channel :=
  match ch.motion with
  | none => ch
  | some m => { ch with duty := m.dutyAt now }

/-- The stamp rises by 1 (R159), and every ramping channel's duty follows (R133). -/
def State.tick (s : State) : State :=
  { s with
    status := { s.status with stamp := s.now + 1 }
    chans := s.chans.map fun ch => ch.atStamp (s.now + 1) }

end Sys2Proof.Machine
end

