-- ==== Sys2Proof/Machine/Poll.lean ====
section
/-! DEFINITION. The Poll Unit (spec/06_polled_values.md): replies, captures, timers and latent fetch. -/

namespace Sys2Proof.Machine

/-! ### Values (R112, R114, R115) -/

/-- The maximum age of an entry in the plan in force, 0 for no staleness. -/
def State.maxAge (s : State) (p : PollId) : Nat := ((s.pollSettings p).map (·.maxAge)).getD 0

/-- The staleness timer of a value of a stamp under a maximum age (R115). -/
def staleExpiry (maxAge : Nat) (t : Stamp) : Option Stamp := if maxAge = 0 then none else some (later t (maxAge + 1))

/-- A value takes its place in an entry, which becomes FRESH (R112, R114). -/
def PollEntry.store (e : PollEntry) (v : List Byte) (t : Stamp) (stale : Option Stamp) : PollEntry :=
  { e with
    state := .fresh
    value := some v
    valueStamp := t
    stale := false
    replyTimer := none
    staleTimer := stale }

/-- The poll ASK of an entry as its abandonment leaves it (R111, R112): on the wire it goes on, with its outcome to be
discarded. -/
def PollAsk.abandon (a : PollAsk) (p : PollId) : Option PollAsk :=
  if a.entry = p then (if a.onWire then some { a with abandoned := true } else none) else some a

/-- The Send Controller without the ASK of an entry (R112). -/
def SendCtl.dropAsk (c : SendCtl) (p : PollId) : SendCtl :=
  { c with
    queue := if c.queuedAsk = some p then dropItem .poll c.queue else c.queue
    pollAsk := c.pollAsk.bind fun a => a.abandon p }

/-- The outstanding ASK of a QUEUED entry abandoned (R112, R42), in the request queue, the send queue or on the wire. -/
def State.dropAsk (s : State) (l : LinkId) (p : PollId) : State :=
  { s with
    senders := update s.senders l fun c => c.dropAsk p
    poll := { s.poll with queues := update s.poll.queues l fun q => q.filter fun x => x != p } }

/-- A value stored in an entry, and the guards that name it judged afresh (R152). -/
def State.storeValue (s : State) (p : PollId) (m : Message) (t : Stamp) : State :=
  (s.modPoll p fun e => e.store m.payload t (staleExpiry (s.maxAge p) t)).reevaluate

/-- A REPLY stored in the entry that routing step 1 found (R112). -/
def State.storeReply (s : State) (l : LinkId) (p : PollId) (m : Message) (t : Stamp) : State :=
  if (s.pollEntry p).state = .queued then ((s.dropAsk l p).storeValue p m t).pollTake l
  else s.storeValue p m t

/-! ### Timers (R110, R113, R115) -/

/-- The auto timer's next period begins at the expiry (R110). -/
def PollEntry.nextAuto (e : PollEntry) (interval : Nat) : PollEntry :=
  { e with autoTimer := e.autoTimer.map fun t => later t interval }

/-- The auto interval of an entry in the plan in force. -/
def State.autoInterval (s : State) (p : PollId) : Nat := ((s.pollSettings p).map (·.autoInterval)).getD 0

/-- An auto expiry (R110). -/
def State.autoExpires (s : State) (p : PollId) : State :=
  (s.modPoll p fun e => e.nextAuto (s.autoInterval p)).queuePoll p

/-- A reply timeout (R113). -/
def State.replyExpires (s : State) (p : PollId) : State :=
  (s.modPoll p fun e => { e with state := .late, replyTimer := none }).raise .pollLate

/-- A staleness expiry (R115). -/
def State.staleExpires (s : State) (p : PollId) : State :=
  (s.modPoll p fun e => { e with stale := true, staleTimer := none }).reevaluate

/-! ### Latent fetch (R108) -/

/-- The read-side action of a read of these entries through an ACTIVE ECHO window, in the order given. -/
def State.latentFetch (s : State) (ps : List PollId) : State := ps.foldl State.queuePoll s

end Sys2Proof.Machine
end

