-- ==== Sys2Proof/Machine/Rings.lean ====
section
/-! DEFINITION. The rings and the Ring Writer (spec/05_receiving_and_rings.md): admission, filling, abandonment, release. -/

namespace Sys2Proof.Machine

/-! ### One ring (R94) -/

/-- The place after an entry in ring order. -/
def Ring.after (r : Ring) (i : Nat) : Nat := if i + 1 < r.length then i + 1 else 0

/-- The condition of an entry; an index past the ring is FREE. -/
def Ring.cond (r : Ring) (i : Nat) : EntryCond := r.conds.getD i .free

/-- No entry is free (R95). -/
def Ring.full (r : Ring) : Bool := r.length ≤ r.pending + r.reserved

/-- The entry at the head is reserved (R95). -/
def Ring.reserve (r : Ring) : Ring :=
  { r with conds := r.conds.set r.head .reserved, reserved := r.reserved + 1, head := r.after r.head }

/-- An index joins a strictly rising list of indexes. -/
def insertIndex (i : Nat) (l : List Nat) : List Nat :=
  match l with
  | [] => [i]
  | j :: js => if i < j then i :: j :: js else if i = j then j :: js else j :: insertIndex i js

/-- The PENDING entry at the oldest pending index is freed (R101). -/
def Ring.freeOldest (r : Ring) : Ring :=
  { r with
    conds := r.conds.set r.oldest .free
    released := r.released.filter fun i => i != r.oldest
    pending := r.pending - 1
    oldest := r.after r.oldest }

/-- Freeing goes on while the entry at the oldest pending index is released (R101), at most `fuel` times. -/
def Ring.freeRun (fuel : Nat) (r : Ring) : Ring :=
  match fuel with
  | 0 => r
  | n + 1 => if r.released.contains r.oldest then r.freeOldest.freeRun n else r

/-- A release carried out (Table 5-4). -/
def Ring.release (r : Ring) (i : Nat) : Ring :=
  if r.cond i = .pending then
    if i = r.oldest then r.freeOldest.freeRun r.length else { r with released := insertIndex i r.released }
  else r

/-- A marker write has completed (R98): the entry becomes PENDING. -/
def Ring.fill (r : Ring) (i : Nat) : Ring :=
  { r with conds := r.conds.set i .pending, reserved := r.reserved - 1, pending := r.pending + 1 }

/-- An entry is abandoned (R99). -/
def Ring.abandon (r : Ring) (i : Nat) : Ring :=
  if i = r.oldest then
    { r with
      conds := r.conds.set i .free
      reserved := r.reserved - 1
      oldest := r.after r.oldest }.freeRun r.length
  else { r.fill i with released := insertIndex i r.released }

/-! ### The Ring Writer (R96, R97) -/

/-- The other link. -/
def otherLink (l : LinkId) : LinkId := if l = 0 then 1 else 0

/-- The head of a link's handoff queue. -/
def State.handoffHead (s : State) (l : LinkId) : Option Handoff := (s.router l).handoff.head?

/-- The link whose queue the idle Ring Writer serves (R96): of two that hold a message, the one not served last. -/
def State.nextServed (s : State) : Option LinkId :=
  let last := s.ringWriter.lastServed
  if (s.handoffHead (otherLink last)).isSome then some (otherLink last)
  else if (s.handoffHead last).isSome then some last
  else none

/-- The message the Ring Writer takes now, if it takes one (R96). -/
def State.writerTakes (s : State) : Option Handoff :=
  if s.ringWriter.writing.isSome then none else s.nextServed.bind s.handoffHead

/-- The code of a damage (Table 11-12). -/
def Damage.code (d : Damage) : Nat :=
  match d with
  | .none => 0
  | .check => 1

/-- The first 16 bytes of a payload, each byte beyond it 0. -/
def padded (bs : List Byte) : List Byte := bs.take 16 ++ List.replicate (16 - bs.length) 0

/-- The body of an entry (Table 11-12, bytes 4 to 31). -/
def Handoff.body (h : Handoff) : List Byte :=
  [BitVec.ofNat 8 h.link.val, BitVec.ofNat 8 h.sieve, BitVec.ofNat 8 h.message.kind.code,
      BitVec.ofNat 8 h.message.length]
    ++ leBytes 2 h.message.tag.toNat ++ [BitVec.ofNat 8 h.damage.code, 0]
    ++ leBytes 4 h.stamp.toNat ++ padded h.message.payload

/-- The first `n` words of bytes, as beats with every byte enabled. -/
def fullBeats (n : Nat) (bs : List Byte) : List WriteBeat := (List.range n).map fun k => fullBeat (wordAt bs k)

/-- Submits a write into a handoff's entry, `off` bytes from its start (R97, R98). The window is there while the entry is
reserved (R38); with none nothing is written (log 31). -/
def State.submitEntry (s : State) (h : Handoff) (p : Purpose) (off : Nat) (beats : List WriteBeat) : State :=
  match s.plan.windowAddr (.gather h.ring) (32 * h.entry + off) with
  | none => s
  | some a => s.submit ⟨p, true, a, beats.length, beats⟩

/-- The Ring Writer takes a message if it is idle and one waits (R96), and submits its body write (R97). -/
def State.writerTake (s : State) : State :=
  match s.writerTakes with
  | none => s
  | some h =>
    State.submitEntry
      { s with
        routers := update s.routers h.link fun r => { r with handoff := r.handoff.tail }
        ringWriter := { s.ringWriter with writing := some ⟨h, false⟩, lastServed := h.link } }
      h .ringBody 4 (fullBeats 7 h.body)

/-! ### Admission (R95) -/

/-- A message sent to ring admission by sieve `k` of its link. -/
def State.intoRing (s : State) (l : LinkId) (r : RingId) (k : Nat) (m : Message) (d : Damage) (t : Stamp) : State :=
  if 2 ≤ (s.router l).handoff.length then (s.bump (.link l .overruns)).raise .overflow
  else if (s.ring r).full then (s.bump (.overflows r)).raise .overflow
  else
    ((s.modRing r Ring.reserve).modRouter l fun q =>
      { q with handoff := q.handoff ++ [⟨l, r, (s.ring r).head, k, m, d, t⟩] }).writerTake

/-! ### Completions (R98, R99) -/

/-- The Ring Writer holds no entry in writing any more, and takes its next message (R96). -/
def State.writerDone (s : State) : State := (s.modRingWriter fun w => { w with writing := none }).writerTake

/-- The entry in writing is abandoned (R99). -/
def State.writerAbandon (s : State) (h : Handoff) : State := (s.modRing h.ring fun r => r.abandon h.entry).writerDone

/-- The body write of the entry in writing completes (R98, R99). -/
def State.bodyWritten (s : State) (code : DownCode) : State :=
  match s.ringWriter.writing with
  | none => s
  | some w =>
    match code with
    | .okay =>
      (s.modRingWriter fun x => { x with writing := some { w with marker := true } }).submitEntry w.handoff
        .ringMarker 0 [fullBeat 1]
    | .other => s.writerAbandon w.handoff

/-- The marker write of the entry in writing completes (R98, R99). -/
def State.markerWritten (s : State) (code : DownCode) : State :=
  match s.ringWriter.writing with
  | none => s
  | some w =>
    match code with
    | .okay => ((s.modRing w.handoff.ring fun r => r.fill w.handoff.entry).raise .received).writerDone
    | .other => s.writerAbandon w.handoff

/-! ### Release (R100, R101) -/

/-- A release is accepted unless the entry is RESERVED (R100). -/
def Ring.mayRelease (r : Ring) (i : Nat) : Bool := r.cond i != .reserved

/-- The follow-on notice of an accepted release (R100): for a PENDING entry only. -/
def State.releaseNotice (s : State) (r : RingId) (i : Nat) : List Notice :=
  if (s.ring r).cond i = .pending then [.release r i] else []

/-- A release notice is delivered (R101). It is judged by the condition of its entry at the delivery (Table 5-4), also where a
plan has reset the ring since the release was taken and the entry has been filled again (the model's choice, log 37). -/
def State.releaseNoticed (s : State) (r : RingId) (i : Nat) : State := s.modRing r fun k => k.release i

end Sys2Proof.Machine
end

