-- ==== Sys2Proof/Machine/Route.lean ====
section
/-! DEFINITION. The Receive Routers: the six routing steps (spec/05_receiving_and_rings.md R87 to R93). -/

namespace Sys2Proof.Machine

/-! ### What the steps look for -/

/-- The poll entries of a link and Tag in the plan in force, lowest first; DUPLICATE allows one (R88). -/
def State.pollFor (s : State) (l : LinkId) (t : Tag) : Option PollId :=
  (List.finRange 32).find? fun p =>
    match s.pollSettings p with
    | none => false
    | some e => e.link == l && e.tag == t

/-- Step 1: the entry a REPLY is handed to (R88). -/
def State.replyFor (s : State) (l : LinkId) (t : Tag) : Option PollId :=
  (s.pollFor l t).filter fun p =>
    let st := (s.pollEntry p).state
    st == .queued || st == .waiting || st == .late

/-- Step 3: the channel a DATA message commands (R89). -/
def State.bindingFor (s : State) (l : LinkId) (t : Tag) : Option ChanId :=
  (List.finRange 3).find? fun c => (look s.plan.bindings c).toList.any fun b => b == some ⟨l, t⟩

/-- Step 4: the HEAR entry that captures a DATA message (R90). -/
def State.hearFor (s : State) (l : LinkId) (t : Tag) : Option PollId :=
  (s.pollFor l t).filter fun p => (s.pollSettings p).any fun e => e.mode == .hear

/-- A sieve matches a message (R91). -/
def Sieve.matches (v : Sieve) (m : Message) : Bool :=
  (m.tag ^^^ v.tag) &&& v.care == 0 && v.kinds.getLsbD m.kind.code

/-- Step 5: the first sieve that matches, and its target (R91). -/
def State.sieveFor (s : State) (l : LinkId) (m : Message) : Option (Fin 16 × SieveTarget) :=
  (List.finRange 16).findSome? fun k =>
    match look (look s.plan.sieves l) k with
    | none => none
    | some v => if v.matches m then some (k, v.target) else none

/-! ### The routing of one offer -/

/-- Steps 5 and 6 of a message received good (R91, R92). -/
def State.sift (s : State) (l : LinkId) (m : Message) (t : Stamp) : State :=
  match s.sieveFor l m with
  | some (k, .ring r) => s.intoRing l r k.val m .none t
  | some (_, .drop) => s
  | none => s.bump (.link l .unrouted)

/-- Step 4 (R90): a HEAR entry captures the message, and routing goes on. -/
def State.hear (s : State) (l : LinkId) (m : Message) (t : Stamp) : State :=
  match s.hearFor l m.tag with
  | none => s
  | some p => s.storeValue p m t

/-- The routing of a message offered with damage NONE (Table 5-1). -/
def State.routeGood (s : State) (l : LinkId) (m : Message) (t : Stamp) : State :=
  match m.kind with
  | .reply =>
    match s.replyFor l m.tag with
    | some p => s.storeReply l p m t
    | none => s.sift l m t
  | .ask => if (s.sender l).consumes m.tag then s.consumeAsk l m.tag else s.sift l m t
  | .data =>
    match s.bindingFor l m.tag with
    | some c => s.deckCommand c l m
    | none => (s.hear l m t).sift l m t

/-- The routing of a message offered with damage CHECK (R93). -/
def State.routeDamaged (s : State) (l : LinkId) (m : Message) (t : Stamp) : State :=
  match s.sieveFor l m with
  | some (k, .ring r) => if (s.ringSettings r).keepDamaged then s.intoRing l r k.val m .check t else s
  | some (_, .drop) => s
  | none => s

end Sys2Proof.Machine
end

