-- ==== Sys2Proof/Machine/Link.lean ====
section
/-! DEFINITION. The Link Controllers: health, errors, modes, mirroring and what each bit-time's event does
(spec/03_deck_link_signalling.md R50 to R65). -/

namespace Sys2Proof.Machine

/-! ### Health (R59) -/

/-- The health of a score (R59). -/
def healthOf (score : BitVec 8) : Health :=
  if score.toNat < 80 then .active else if score.toNat < 160 then .cautious else .silent

/-- The score changes and health follows, in RUN and not SILENT (R59); a link that becomes SILENT arms its recovery
under AUTO (R60). -/
def LinkCtl.rescore (k : LinkCtl) (auto : Bool) (score : BitVec 8) : LinkCtl :=
  if k.mode = .run ∧ k.health ≠ .silent then
    { k with
      score := score
      health := healthOf score
      recoveryArmed := if healthOf score = .silent then auto else k.recoveryArmed
      recoveryGaps := if healthOf score = .silent ∧ auto then 0 else k.recoveryGaps }
  else k

/-- The score of a link raised, saturating (R56). -/
def addScore (score : BitVec 8) (n : Nat) : BitVec 8 := if score.toNat + n ≤ 255 then BitVec.ofNat 8 (score.toNat + n) else 255

/-- The score of a link lowered by a good message (R54). -/
def lowerScore (score : BitVec 8) : BitVec 8 := if score = 0 then 0 else score - 1

/-- The recovery setting of a link in the plan in force is AUTO. -/
def State.autoRecovery (s : State) (l : LinkId) : Bool := (s.linkSettings l).recovery == .auto

/-- A link's score changes (R54, R56, R59): a change of health raises cause LINK. -/
def State.rescore (s : State) (l : LinkId) (f : BitVec 8 → BitVec 8) : State :=
  let k := s.link l
  let k' := k.rescore (s.autoRecovery l) (f k.score)
  (s.modLink l fun _ => k').raiseIf (k'.health != k.health) .link

/-! ### Modes (R61 to R65) -/

/-- The mode that the next accepted request would leave (R62). -/
def LinkCtl.prospective (k : LinkCtl) : Mode := k.pendingMode.getD k.mode

/-- A link in this mode reads its line as RUN and LISTEN do. -/
def Mode.attached (m : Mode) : Bool := m == .run || m == .listen

/-- A mode request is accepted (R62). -/
def LinkCtl.acceptsMode (k : LinkCtl) (m : Mode) : Bool := m != .quiet || k.prospective.attached

/-- A mode change waits for the message or the mark under way (R62). -/
def LinkCtl.busy (k : LinkCtl) : Bool :=
  k.phase == .sending || k.phase == .marking || (k.mode == .mirror && k.item.isSome)

/-- The mode left of a change into QUIET (R65); where the link was in neither RUN nor LISTEN it is a free value (log 13). -/
def LinkCtl.leaving (k : LinkCtl) (free : Nat) : Mode :=
  if k.mode.attached then k.mode else if Config.modeLeftIsRun free then .run else .listen

/-- A link that takes no part in its line (R61, R64, R65): a message being received is abandoned. -/
def LinkCtl.detach (k : LinkCtl) : LinkCtl :=
  { k with phase := .detached, gapCount := 0, idleRun := 0, dominantRun := 0, assembly := Assembly.empty }

/-- A link that waits for a quiet gap (R50). -/
def LinkCtl.waitGap (k : LinkCtl) : LinkCtl := { k with phase := .gapWait, gapCount := 0, idleRun := 0 }

/-- What the completion of a mode change does to the link (R63). -/
def LinkCtl.enter (k : LinkCtl) (m : Mode) (manual : Bool) (free : Nat) : LinkCtl :=
  let k' := { k with mode := m, pendingMode := none }
  match m with
  | .run =>
    let k' := if k.mode.attached then k' else k'.waitGap
    if k.health = .silent ∧ manual then { k' with recoveryArmed := true, recoveryGaps := 0 } else k'
  | .listen => if k.mode.attached then k' else k'.waitGap
  | .setup => { k'.detach with score := 0, health := .active, recoveryArmed := false, recoveryGaps := 0 }
  | .mirror => if k.mode = .mirror then k' else { k'.detach with mirrorGap := false }
  | .quiet => { k'.detach with modeLeft := k.leaving free }

/-- A change into QUIET whose mode left is a free value (log 13). -/
def LinkCtl.leavesFreely (k : LinkCtl) (m : Mode) : Bool := m == .quiet && !k.mode.attached

/-- A mode change completes (R63). -/
def State.completeMode (s : State) (l : LinkId) (m : Mode) : State :=
  let free := (s.link l).leavesFreely m
  let t := (State.raise
    { s with
      links := update s.links l fun k => k.enter m (!s.autoRecovery l) s.freeCount
      freeCount := if free then s.freeCount + 1 else s.freeCount } .link)
  (if m = .setup then t.abortSends l else t).kick l

/-- An accepted mode request (R62, R63). -/
def State.requestMode (s : State) (l : LinkId) (m : Mode) : State :=
  if (s.link l).busy then s.modLink l fun k => { k with pendingMode := some m } else s.completeMode l m

/-- A pending mode completes, if one waits (R63). -/
def State.completePending (s : State) (l : LinkId) : State :=
  match (s.link l).pendingMode with
  | none => s
  | some m => s.completeMode l m

/-- The item on the wire ends with an outcome, handed to the Send Controller (R63); with none nothing is handed. -/
def State.endItem (s : State) (l : LinkId) (o : Outcome) : State :=
  match (s.link l).item with
  | none => s
  | some it => (s.modLink l fun k => { k with item := none }).itemOutcome l it.ref o

/-! ### Gaps and start marks (R50, R60) -/

/-- This quiet gap completes the recovery (R60). -/
def LinkCtl.lastGap (k : LinkCtl) : Bool := k.recovering && k.recoveryGaps + 1 == 64

/-- A quiet gap (R50, R60): the phase is IDLE, and the head of the send queue may go on the wire. -/
def State.quietGap (s : State) (l : LinkId) : State :=
  (s.modLink l fun k =>
    { k with
      phase := .idle
      idleRun := 0
      recoveryGaps := if k.recovering then k.recoveryGaps + 1 else k.recoveryGaps }).kick l

/-- The recovery of a SILENT link (R60). -/
def State.recover (s : State) (l : LinkId) : State :=
  ((s.modLink l fun k =>
    { k with
      phase := .idle
      idleRun := 0
      score := 0
      health := .active
      recoveryArmed := false
      recoveryGaps := 0 }).raise .link).kick l

/-- A start mark read in IDLE (R50). -/
def LinkCtl.receive (k : LinkCtl) : LinkCtl :=
  { k with phase := .receiving, idleRun := 0, assembly := Assembly.empty.push .dominant }

/-! ### Ends of messages (R52, R54) -/

/-- The arbitration is lost (R52). -/
def State.arbitrationLost (s : State) (l : LinkId) : State :=
  (((s.modLink l fun k => { k with phase := .receiving }).endItem l .lost)).completePending l

/-- A message sent and confirmed (R54). -/
def State.messageSent (s : State) (l : LinkId) : State :=
  (((s.bump (.link l .sent)).rescore l lowerScore).modLink l LinkCtl.waitGap |>.endItem l .sent).completePending l

/-- The last-captured record takes a message (R54). -/
def captured (m : Message) (t : Stamp) : Captured := ⟨m.tag, m.kind, m.length, t⟩

/-- A message received good is counted and captured (R54, R64). -/
def State.countReceived (s : State) (l : LinkId) (m : Message) : State :=
  (s.bump (.link l .received)).modLink l fun k => { k with lastCaptured := captured m s.now }

/-- A message received good (R54). -/
def State.messageReceived (s : State) (l : LinkId) : State :=
  let m := (s.link l).assembly.message
  (((s.countReceived l m).rescore l lowerScore).modLink l LinkCtl.waitGap).routeGood l m s.now

/-! ### Errors (R56 to R58) -/

/-- The score an error adds, by the role of the link (Table 3-6). -/
def errorWeight (sending : Bool) : Nat := if sending then 8 else 1

/-- Steps 1 and 2 of an error (R56). -/
def State.countError (s : State) (l : LinkId) (kind : LinkCounter) (sending : Bool) : State :=
  (s.bump (.link l kind)).rescore l fun n => addScore n (errorWeight sending)

/-- The link begins an error mark at this health and mode (R56, step 4). -/
def LinkCtl.marks (k : LinkCtl) : Bool := k.mode == .run && k.health == .active

/-- An error mark begins (R57). -/
def LinkCtl.mark (k : LinkCtl) : LinkCtl :=
  { k with phase := .marking, markBits := 0, item := k.item.map fun it => { it with sending := false } }

/-- Steps 4 and 5 of an error (R56): an error mark, or the end of the message with its outcome. -/
def State.endAtError (s : State) (l : LinkId) (mayMark : Bool) : State :=
  if mayMark && (s.link l).marks then s.modLink l LinkCtl.mark
  else ((s.modLink l LinkCtl.waitGap).endItem l .error).completePending l

/-- An error of a link that is sending (R56). -/
def State.sendingError (s : State) (l : LinkId) (kind : LinkCounter) : State :=
  (s.countError l kind true).endAtError l true

/-- SHAPE (R55, R56). -/
def State.shapeError (s : State) (l : LinkId) : State := (s.countError l .shape false).endAtError l true

/-- CHECK (R56): the damaged message is offered. -/
def State.checkError (s : State) (l : LinkId) : State :=
  ((s.countError l .check false).routeDamaged l (s.link l).assembly.message s.now).endAtError l true

/-- STUCK (R58): never marked. The link was sending if an item of its own is on the wire and still being sent. -/
def State.stuckError (s : State) (l : LinkId) : State :=
  (s.countError l .stuck ((s.link l).phase == .sending)).endAtError l false

/-- The end of an error mark (R57, R63). -/
def State.markEnds (s : State) (l : LinkId) : State :=
  ((s.modLink l LinkCtl.waitGap).endItem l .error).completePending l

/-! ### MIRROR and QUIET (R64, R65) -/

/-- The 12 bit-times of a link in MIRROR have passed (R64). -/
def State.mirrorGapEnds (s : State) (l : LinkId) : State :=
  (s.modLink l fun k => { k with mirrorGap := true }).kick l

/-- A mirrored message ends (R64): outcome SENT, then received good, then the pending mode (log 21). -/
def State.mirroredEnds (s : State) (l : LinkId) (m : Message) : State :=
  ((((s.modLink l fun k => { k with mirrorGap := false }).endItem l .sent).bump (.link l .sent)).countReceived l
    m |>.routeGood l m s.now).completePending l

/-- A QUIET link wakes (R65). -/
def State.wake (s : State) (l : LinkId) : State :=
  (s.modLink l fun k => { k.waitGap with mode := k.modeLeft }).raise .link

/-! ### Commands of the line -/

/-- A command of the line (log 9): the levels read since the link's last such event bring about `want` at the last of
them, and `f` follows; levels that bring about anything else are out of place and change nothing (log 2). -/
def State.wire (s : State) (l : LinkId) (levels : List Level) (want : WireEvent) (f : State → State) : State :=
  match (s.link l).advance levels with
  | none => s
  | some (k, e) => if e = want then f (s.modLink l fun _ => k) else s

end Sys2Proof.Machine
end

