-- ==== Sys2Proof/Machine/PlanPage.lean ====
section
/-! DEFINITION. The plan page as read back, and the checks in their order (spec/02_the_plan.md R31 to R38; the offsets are
those of spec/11_record_layouts.md). A reader of an entry answers none where RANGE refuses the entry. -/

namespace Sys2Proof.Machine

/-! ### Fields of the page -/

/-- Byte `o` of the page. -/
def pageByte (p : Page) (o : Nat) : Byte :=
  byteOf ((p.toList.getD (o / 64) []).getD (o % 64 / 4) 0) (o % 4)

/-- The unsigned field of `n` bytes at offset `o`. -/
def pageNat (p : Page) (o n : Nat) : Nat := leNat ((List.range n).map fun k => pageByte p (o + k))

/-- The signed field of 4 bytes at offset `o`. -/
def pageInt (p : Page) (o : Nat) : Int := (BitVec.ofNat 32 (pageNat p o 4)).toInt

/-- The Tag field at offset `o`. -/
def pageTag (p : Page) (o : Nat) : Tag := BitVec.ofNat 16 (pageNat p o 2)

/-- The value if a condition holds: a field outside its range makes the entry fail (R33). -/
def ensure {α : Type} (b : Bool) (a : α) : Option α := if b then some a else none

/-- An entry with a valid flag (R33): the other fields count only if it is valid. -/
def validEntry {α : Type} (p : Page) (o : Nat) (entry : Option α) : Option (Option α) :=
  match pageNat p o 1 with
  | 0 => some none
  | 1 => entry.map some
  | _ => none

/-- A flag field (chapter 11). -/
def pageFlag (p : Page) (o : Nat) : Option Bool :=
  match pageNat p o 1 with
  | 0 => some false
  | 1 => some true
  | _ => none

/-- A field that names a direction or an end. -/
def pageDir (p : Page) (o : Nat) : Option Dir :=
  match pageNat p o 1 with
  | 0 => some .outward
  | 1 => some .inward
  | _ => none

/-- A one-byte field below `n`. -/
def pageFin (n : Nat) (p : Page) (o : Nat) : Option (Fin n) := toFin n (pageNat p o 1)

/-- Between two bounds, both allowed. -/
def within (low high v : Nat) : Bool := low ≤ v && v ≤ high

/-! ### Header (Table 11-1) -/

/-- The sequence value of a trigger is in range (R33). -/
def sequenceOk (value : Word) : Bool := 0 < value.toNat && value.toNat < 65536

/-- The attention mask. -/
def pageMask (p : Page) : Option (BitVec 12) := ensure (pageNat p 16 2 < 4096) (BitVec.ofNat 12 (pageNat p 16 2))

/-- The attention line mode. -/
def pageLineMode (p : Page) : Option LineMode :=
  match pageNat p 18 1 with
  | 0 => some .level
  | 1 => some .pulse
  | _ => none

/-! ### Windows (Table 11-2) -/

/-- The view byte of an ECHO or LIVE window. -/
def pageView (p : Page) (o : Nat) : Option View :=
  match pageNat p o 1 with
  | 1 => some .active
  | 2 => some .peek
  | _ => none

/-- A window's kind with its unit and view, from the entry at `o`; a byte the kind does not use must be 0 (R178). -/
def pageWindowKind (p : Page) (o : Nat) : Option WindowKind :=
  let noUnit := pageNat p (o + 2) 1 == 0
  let noView := pageNat p (o + 3) 1 == 0
  match pageNat p (o + 1) 1 with
  | 1 => (pageFin 2 p (o + 2)).bind fun l => ensure noView (.post l)
  | 2 => (pageFin 4 p (o + 2)).bind fun r => ensure noView (.gather r)
  | 3 => (pageView p (o + 3)).bind fun v => ensure noUnit (.echo v)
  | 4 => (pageView p (o + 3)).bind fun v => ensure noUnit (.live v)
  | 5 => ensure (noUnit && noView) .drive
  | _ => none

/-- A ring length as the window's base check takes it (R33). -/
def clampLength (n : Nat) : Nat := if n < 2 then 2 else if 64 < n then 64 else n

/-- The size of a window for its base check (R33). -/
def pageWindowSize (p : Page) (k : WindowKind) : Nat :=
  match k with
  | .gather r => clampLength (pageNat p (320 + 8 * r.val) 1) * 32
  | .post _ => 320
  | .echo _ => 1024
  | .live _ => 512
  | .drive => 192

/-- Entry `i` of the window table. -/
def pageWindow (p : Page) (i : Fin 12) : Option (Option Window) :=
  let o := 64 + 16 * i.val
  let base := pageNat p (o + 4) 5
  validEntry p o ((pageWindowKind p o).bind fun k =>
    ensure (base % 64 == 0 && base + pageWindowSize p k ≤ 2 ^ 40) ⟨k, BitVec.ofNat 40 base⟩)

/-- The windows the page declares. -/
def pageWindows (p : Page) : Vector (Option Window) 12 := Vector.ofFn fun i => (pageWindow p i).getD none

/-- The page has a valid window of a kind (R34). -/
def declares (ws : Vector (Option Window) 12) (k : WindowKind) : Bool :=
  ws.toList.any fun w => w.any fun x => x.kind == k

/-! ### Links and rings (Tables 11-3, 11-4) -/

/-- A bit rate. -/
def pageBitRate (p : Page) (o : Nat) : Option BitRate :=
  match pageNat p o 1 with
  | 0 => some .kbit62
  | 1 => some .kbit125
  | 2 => some .kbit250
  | 3 => some .kbit500
  | _ => none

/-- A recovery setting. -/
def pageRecovery (p : Page) (o : Nat) : Option RecoverySetting :=
  match pageNat p o 1 with
  | 0 => some .auto
  | 1 => some .manual
  | _ => none

/-- The settings of a link. -/
def pageLink (p : Page) (l : LinkId) : Option LinkSettings :=
  let o := 256 + 32 * l.val
  let retry := pageNat p (o + 2) 1
  let priority := pageNat p (o + 3) 1
  (pageBitRate p o).bind fun rate =>
    (pageRecovery p (o + 1)).bind fun rec =>
      ensure (retry ≤ 15 && priority ≤ 3) ⟨rate, rec, retry, priority⟩

/-- The settings of a ring; those of a ring without a valid GATHER window are not checked and stand as 0 (R33). -/
def pageRing (p : Page) (ws : Vector (Option Window) 12) (r : RingId) : Option RingSettings :=
  let o := 320 + 8 * r.val
  let len := pageNat p o 1
  if declares ws (.gather r) then
    (pageFlag p (o + 1)).bind fun keep => ensure (within 2 64 len) ⟨len, keep⟩
  else some ⟨0, false⟩

/-! ### Sieves and poll table (Tables 11-5, 11-6) -/

/-- A sieve's target; a ring needs a valid GATHER window (R34). -/
def pageTarget (p : Page) (ws : Vector (Option Window) 12) (o : Nat) : Option SieveTarget :=
  let v := pageNat p o 1
  if v = 255 then some .drop
  else (toFin 4 v).bind fun r => ensure (declares ws (.gather r)) (.ring r)

/-- Sieve `k` of link `l`. -/
def pageSieve (p : Page) (ws : Vector (Option Window) 12) (l : LinkId) (k : Fin 16) : Option (Option Sieve) :=
  let o := 352 + 256 * l.val + 16 * k.val
  let kinds := pageNat p (o + 1) 1
  validEntry p o ((pageTarget p ws (o + 2)).bind fun t =>
    ensure (within 1 7 kinds) ⟨BitVec.ofNat 3 kinds, t, pageTag p (o + 4), pageTag p (o + 6)⟩)

/-- The mode of a poll entry. -/
def pagePollMode (p : Page) (o : Nat) : Option PollMode :=
  match pageNat p o 1 with
  | 0 => some .ask
  | 1 => some .hear
  | _ => none

/-- An auto interval is in range for a mode (Table 2-5). -/
def intervalOk (m : PollMode) (v : Nat) : Bool := v == 0 || (m == .ask && within 50 60000 v)

/-- Entry `k` of the poll table. -/
def pagePoll (p : Page) (k : PollId) : Option (Option PollSettings) :=
  let o := 864 + 16 * k.val
  let timeout := pageNat p (o + 6) 2
  let age := pageNat p (o + 8) 2
  let interval := pageNat p (o + 10) 2
  validEntry p o ((pageFin 2 p (o + 1)).bind fun l =>
    (pagePollMode p (o + 2)).bind fun m =>
      ensure (within 10 5000 timeout && (age == 0 || within 100 60000 age) && intervalOk m interval)
        ⟨l, m, pageTag p (o + 4), timeout, age, interval⟩)

/-! ### Drive settings and bindings (Tables 11-7, 11-8) -/

/-- A trip mode. -/
def pageTripMode (p : Page) (o : Nat) : Option TripMode :=
  match pageNat p o 1 with
  | 0 => some .cut
  | 1 => some .warn
  | _ => none

/-- An alarm slot; its link needs a valid POST window (R34). -/
def pageAlarm (p : Page) (ws : Vector (Option Window) 12) (o : Nat) : Option (Option (LinkId × SlotId)) :=
  validEntry p o ((pageFin 2 p (o + 1)).bind fun l =>
    (pageFin 8 p (o + 2)).bind fun i => ensure (declares ws (.post l)) (l, i))

/-- The numeric fields of a drive settings entry are in range (Table 2-5). -/
def driveRangeOk (c : ChanId) (k : DriveSettings) : Bool :=
  within 1 1023 k.tripThreshold && [1, 4, 16, 64].contains k.tripFilter && within 200 5000 k.stallTime
    && within 1 600 k.runLimit && k.rampTime ≤ 3000 && within 100 3000 k.stopDwell
    && within 100 2000 k.holdTime && decide (-1000000 ≤ k.travelMin) && decide (k.travelMin < k.travelMax)
    && decide (k.travelMax ≤ 1000000)
    && (if c = windlass then within 1 10000 k.watchLimit else k.watchLimit == 0)

/-- The drive settings of a channel. -/
def pageDrive (p : Page) (ws : Vector (Option Window) 12) (c : ChanId) : Option (Option DriveSettings) :=
  let o := 1376 + 64 * c.val
  validEntry p o ((pageTripMode p (o + 4)).bind fun mode =>
    (pageDir p (o + 5)).bind fun rest =>
      (pageAlarm p ws (o + 24)).bind fun alarm =>
        let k : DriveSettings :=
          { tripFilter := pageNat p (o + 1) 1
            tripThreshold := pageNat p (o + 2) 2
            tripMode := mode
            restDir := rest
            stallTime := pageNat p (o + 6) 2
            runLimit := pageNat p (o + 8) 2
            rampTime := pageNat p (o + 10) 2
            stopDwell := pageNat p (o + 12) 2
            holdTime := pageNat p (o + 14) 2
            travelMin := pageInt p (o + 16)
            travelMax := pageInt p (o + 20)
            alarm := alarm
            watchLimit := pageNat p (o + 28) 2 }
        ensure (driveRangeOk c k) k)

/-- Binding `b` of channel `c`. -/
def pageBinding (p : Page) (c : ChanId) (b : Fin 2) : Option (Option Binding) :=
  let o := 1568 + 16 * c.val + 8 * b.val
  validEntry p o ((pageFin 2 p (o + 1)).map fun l => ⟨l, pageTag p (o + 2)⟩)

/-! ### Interlocks (Table 11-9) -/

/-- The direction of an interlock. -/
def pageGuardDir (p : Page) (o : Nat) : Option GuardDir :=
  match pageNat p o 1 with
  | 0 => some (.only .outward)
  | 1 => some (.only .inward)
  | 2 => some .both
  | _ => none

/-- A poll entry that a VALUE condition may name (R34): valid, with a maximum age above 0. -/
def namesAged (poll : Vector (Option PollSettings) 32) (e : PollId) : Bool := (look poll e).any fun k => 0 < k.maxAge

/-- The condition of the interlock at `o` with its references (R34). -/
def pageCondition (p : Page) (poll : Vector (Option PollSettings) 32) (guarded : ChanId) (o : Nat) :
    Option Condition :=
  match pageNat p (o + 3) 1 with
  | 0 => (pageFin 3 p (o + 4)).bind fun c =>
      (pageDir p (o + 5)).bind fun d => ensure (c != guarded) (.atEnd c d)
  | 1 => (pageFin 3 p (o + 4)).bind fun c => ensure (c != guarded) (.still c)
  | 2 => (pageFin 32 p (o + 4)).bind fun e =>
      ensure (pageNat p (o + 5) 1 ≤ 15 && namesAged poll e)
        (.value e (pageNat p (o + 5) 1) (pageByte p (o + 6)) (pageByte p (o + 7)))
  | _ => none

/-- Interlock `k`. -/
def pageInterlock (p : Page) (poll : Vector (Option PollSettings) 32) (k : LockId) : Option (Option Interlock) :=
  let o := 1616 + 16 * k.val
  validEntry p o ((pageFin 3 p (o + 1)).bind fun c =>
    (pageGuardDir p (o + 2)).bind fun d => (pageCondition p poll c o).map fun x => ⟨c, d, x⟩)

/-! ### Repeater (Table 11-10) -/

/-- The rate of the repeater line. -/
def pageRepeaterRate (p : Page) (o : Nat) : Option RepeaterRate :=
  match pageNat p o 1 with
  | 0 => some .bit19200
  | 1 => some .bit57600
  | 2 => some .bit115200
  | _ => none

/-- The repeater header: rate, period and source count. Table 11-10 gives the period bytes 2 and 3 and lists byte 3 as unused
too; the model reads both bytes (log 36). -/
def pageRepeaterHeader (p : Page) : Option (RepeaterRate × Nat × Nat) :=
  let period := pageNat p 1746 2
  let count := pageNat p 1748 1
  (pageRepeaterRate p 1744).bind fun rate =>
    ensure ((period == 0 || within 100 10000 period) && count ≤ 8) (rate, period, count)

/-- The presented record of a source (log 32: the index of the counters block must be 0). -/
def pagePresented (p : Page) (o : Nat) : Option Presented :=
  match pageNat p (o + 1) 1 with
  | 0 => (pageFin 2 p (o + 2)).map .link
  | 1 => (pageFin 3 p (o + 2)).map .channel
  | 2 => (pageFin 32 p (o + 2)).map .pollEntry
  | 3 => ensure (pageNat p (o + 2) 1 == 0) .counters
  | _ => none

/-- Repeater source `k`. -/
def pageSource (p : Page) (k : Nat) : Option Source :=
  let o := 1760 + 16 * k
  let start := pageNat p (o + 4) 5
  let len := pageNat p (o + 9) 1
  match pageNat p o 1 with
  | 0 => (pagePresented p o).map .presented
  | 1 => ensure (within 1 64 len && start + len ≤ 2 ^ 40) (.memory (BitVec.ofNat 40 start) len)
  | _ => none

/-- The sources in use (R171). -/
def pageSources (p : Page) (count : Nat) : List Source := (List.range count).filterMap (pageSource p)

/-- The repeater settings. -/
def pageRepeater (p : Page) : RepeaterSettings :=
  match pageRepeaterHeader p with
  | none => ⟨.bit19200, 0, []⟩
  | some (rate, period, count) => ⟨rate, period, pageSources p count⟩

/-! ### The plan of a page -/

/-- The poll table of a page. -/
def pagePolls (p : Page) : Vector (Option PollSettings) 32 := Vector.ofFn fun k => (pagePoll p k).getD none

/-- The plan a page holds. It is used only where RANGE refuses no entry. -/
def pagePlan (p : Page) : Plan :=
  let ws := pageWindows p
  let poll := pagePolls p
  { attentionMask := (pageMask p).getD 0
    lineMode := (pageLineMode p).getD .level
    windows := ws
    links := Vector.ofFn fun l => (pageLink p l).getD (look Plan.empty.links l)
    rings := Vector.ofFn fun r => (pageRing p ws r).getD ⟨0, false⟩
    sieves := Vector.ofFn fun l => Vector.ofFn fun k => (pageSieve p ws l k).getD none
    poll := poll
    drives := Vector.ofFn fun c => (pageDrive p ws c).getD none
    bindings := Vector.ofFn fun c => Vector.ofFn fun b => (pageBinding p c b).getD none
    interlocks := Vector.ofFn fun k => (pageInterlock p poll k).getD none
    repeater := pageRepeater p }

/-! ### Checks (R31) -/

/-- A refusal: its reason, section and entry index (R26). -/
structure PlanFault where
  reason   : PlanReason
  section_ : PlanSection
  index    : Nat
  deriving DecidableEq, Repr

/-- The first of a section's entries that fails, in increasing index. -/
def firstFailing (r : PlanReason) (sec : PlanSection) (n : Nat) (fails : Fin n → Bool) : Option PlanFault :=
  ((List.finRange n).find? fails).map fun i => ⟨r, sec, i.val⟩

/-- The first fault of several, in the order given. -/
def firstFault (fs : List (Option PlanFault)) : Option PlanFault := fs.findSome? id

/-- SIGNATURE (R32). -/
def checkSignature (p : Page) : Option PlanFault :=
  if pageNat p 0 4 = 0x50365A54 then none else some ⟨.signature, .header, 0⟩

/-- The header fails RANGE; the sequence value is the trigger's (R33). -/
def headerFails (p : Page) (value : Word) : Bool :=
  !sequenceOk value || (pageMask p).isNone || (pageLineMode p).isNone

/-- Source `k` fails RANGE: only those in use are checked (R33). -/
def sourceFails (p : Page) (k : Nat) : Bool :=
  match pageRepeaterHeader p with
  | none => false
  | some (_, _, count) => k < count && (pageSource p k).isNone

/-- RANGE, with the references of R34 (R33, R34). Index 0 of the repeater is its header, index 1 + k its source k. -/
def checkPageRange (p : Page) (value : Word) : Option PlanFault :=
  let ws := pageWindows p
  let poll := pagePolls p
  firstFault
    [firstFailing .range .header 1 fun _ => headerFails p value,
      firstFailing .range .windows 12 fun i => (pageWindow p i).isNone,
      firstFailing .range .links 2 fun l => (pageLink p l).isNone,
      firstFailing .range .rings 4 fun r => (pageRing p ws r).isNone,
      firstFailing .range .sieves 32 fun k =>
        (pageSieve p ws (Fin.ofNat 2 (k.val / 16)) (Fin.ofNat 16 (k.val % 16))).isNone,
      firstFailing .range .poll 32 fun k => (pagePoll p k).isNone,
      firstFailing .range .drive 3 fun c => (pageDrive p ws c).isNone,
      firstFailing .range .bindings 6 fun k =>
        (pageBinding p (Fin.ofNat 3 (k.val / 2)) (Fin.ofNat 2 (k.val % 2))).isNone,
      firstFailing .range .interlocks 8 fun k => (pageInterlock p poll k).isNone,
      firstFailing .range .repeater 9 fun k =>
        if k.val = 0 then (pageRepeaterHeader p).isNone else sourceFails p (k.val - 1)]

/-- Two ranges of bytes share a byte. -/
def shares (a n b m : Nat) : Bool := a < b + m && b < a + n

/-- The valid windows of lower index. -/
def lowerWindows (q : Plan) (i : Nat) : List Window := (q.windows.toList.take i).filterMap id

/-- Window `i` overlaps the plan page or a window of lower index (R35). -/
def overlaps (planSel : BitVec 4) (q : Plan) (i : Fin 12) : Bool :=
  match look q.windows i with
  | none => false
  | some w =>
    let a := w.base.toNat
    let n := windowSize q w.kind
    shares a n (planBase planSel).toNat 4096
      || (lowerWindows q i.val).any fun v => shares a n v.base.toNat (windowSize q v.kind)

/-- OVERLAP (R35). -/
def checkOverlap (planSel : BitVec 4) (q : Plan) : Option PlanFault :=
  firstFailing .overlap .windows 12 (overlaps planSel q)

/-- Window `i` has the kind, unit and view of one of lower index (R36). -/
def windowRepeats (q : Plan) (i : Fin 12) : Bool :=
  (look q.windows i).any fun w => (lowerWindows q i.val).any fun v => v.kind == w.kind

/-- Poll entry `k` has the link and Tag of one of lower index (R36). -/
def pollRepeats (q : Plan) (k : PollId) : Bool :=
  (look q.poll k).any fun e =>
    ((q.poll.toList.take k.val).filterMap id).any fun f => f.link == e.link && f.tag == e.tag

/-- The bindings of a plan in page order. -/
def bindingList (q : Plan) : List (Option Binding) := q.bindings.toList.flatMap (·.toList)

/-- Binding `k`, in page order, has the link and Tag of one of lower index (R36). -/
def bindingRepeats (q : Plan) (k : Nat) : Bool :=
  ((bindingList q).getD k none).any fun b => ((bindingList q).take k).contains (some b)

/-- DUPLICATE (R36). -/
def checkDuplicate (q : Plan) : Option PlanFault :=
  firstFault
    [firstFailing .duplicate .windows 12 (windowRepeats q), firstFailing .duplicate .poll 32 (pollRepeats q),
      firstFailing .duplicate .bindings 6 fun k => bindingRepeats q k.val]

/-- A link's bit rate or retry limit would change outside SETUP (R37). -/
def State.linkLocked (s : State) (q : Plan) (l : LinkId) : Bool :=
  let old := s.linkSettings l
  let new := look q.links l
  (old.rate != new.rate || old.retryLimit != new.retryLimit) && (s.link l).mode != Mode.setup

/-- A channel's settings would change in DRIVE_OUT, DRIVE_IN or STOPPING (R37). -/
def State.driveLocked (s : State) (q : Plan) (c : ChanId) : Bool :=
  s.driveSettings c != look q.drives c && (s.chan c).state.measured

/-- LOCKED (R37). -/
def State.checkLocked (s : State) (q : Plan) : Option PlanFault :=
  firstFault [firstFailing .locked .links 2 (s.linkLocked q), firstFailing .locked .drive 3 (s.driveLocked q)]

/-- The effective length of a ring under a plan (R38). -/
def effectiveLength (q : Plan) (r : RingId) : Nat := if (q.windowBase (.gather r)).isSome then (look q.rings r).length else 0

/-- A POST window would move while a slot of its link is owned (R38). -/
def State.postBusy (s : State) (q : Plan) (l : LinkId) : Bool :=
  s.plan.windowBase (.post l) != q.windowBase (.post l) && (s.sender l).slots.toList.any fun sl => sl.state.owned

/-- A ring's length or base differs between the plan in force and another (R38, R41). -/
def State.ringMoves (s : State) (q : Plan) (r : RingId) : Bool :=
  effectiveLength s.plan r != effectiveLength q r || s.plan.windowBase (.gather r) != q.windowBase (.gather r)

/-- A ring in use would move (R38). -/
def State.ringBusy (s : State) (q : Plan) (r : RingId) : Bool :=
  s.ringMoves q r && 0 < (s.ring r).pending + (s.ring r).reserved

/-- BUSY (R38). -/
def State.checkBusy (s : State) (q : Plan) : Option PlanFault :=
  firstFault [firstFailing .busy .links 2 (s.postBusy q), firstFailing .busy .rings 4 (s.ringBusy q)]

/-- The checks in their order (R31); no fault means that the plan comes into force. -/
def State.checkPlan (s : State) (p : Page) (value : Word) : Option PlanFault :=
  let q := pagePlan p
  firstFault
    [checkSignature p, checkPageRange p value, checkOverlap s.planSel q, checkDuplicate q, s.checkLocked q,
      s.checkBusy q]

end Sys2Proof.Machine
end

