-- ==== Sys2Proof/Machine/Snapshot.lean ====
section
/-! DEFINITION. What the part presents: the value of every substituted word as it stands (R11), by the layouts of
spec/11_record_layouts.md. A byte marked zero or unused there is 0. -/

namespace Sys2Proof.Machine

/-! ### Codes (Table 11-18) -/

def PlanState.code (x : PlanState) : Nat :=
  match x with
  | .none => 0 | .loading => 1 | .inForce => 2 | .refused => 3

def PlanReason.code (x : PlanReason) : Nat :=
  match x with
  | .none => 0 | .signature => 1 | .range => 2 | .overlap => 3 | .duplicate => 4 | .locked => 5 | .busy => 6
  | .readFailed => 7

def PlanSection.code (x : PlanSection) : Nat :=
  match x with
  | .none => 0 | .header => 1 | .windows => 2 | .links => 3 | .rings => 4 | .sieves => 5 | .poll => 6
  | .drive => 7 | .bindings => 8 | .interlocks => 9 | .repeater => 10 | .page => 11

def Health.code (x : Health) : Nat :=
  match x with
  | .active => 0 | .cautious => 1 | .silent => 2

def SlotState.code (x : SlotState) : Nat :=
  match x with
  | .idle => 0 | .fetching => 1 | .queued => 2 | .onWire => 3 | .sent => 4 | .failed => 5 | .aborted => 6
  | .armed => 7

def SlotPurpose.code (x : SlotPurpose) : Nat :=
  match x with
  | .send => 0 | .answer => 1 | .alarm => 2

def FailReason.code (x : FailReason) : Nat :=
  match x with
  | .none => 0 | .retries => 1 | .memory => 2 | .body => 3

def PollState.code (x : PollState) : Nat :=
  match x with
  | .never => 0 | .fresh => 1 | .queued => 2 | .waiting => 3 | .late => 4 | .unsent => 5

def PollMode.code (x : PollMode) : Nat :=
  match x with
  | .ask => 0 | .hear => 1

def ChanState.code (x : ChanState) : Nat :=
  match x with
  | .safe => 0 | .ready => 1 | .driveOut => 2 | .driveIn => 3 | .stopping => 4 | .tripped => 5

def CmdSource.code (x : CmdSource) : Nat :=
  match x with
  | .none => 0 | .zone => 1 | .deck0 => 2 | .deck1 => 3

def StopReason.code (x : StopReason) : Nat :=
  match x with
  | .none => 0 | .command => 1 | .atTarget => 2 | .end_ => 3 | .softLimit => 4 | .interlock => 5
  | .holdLapse => 6 | .disabled => 7 | .trip => 8

def RefuseReason.code (x : RefuseReason) : Nat :=
  match x with
  | .none => 0 | .badCode => 1 | .badWrite => 2 | .badState => 3 | .range => 4 | .interlock => 5
  | .eslActive => 6 | .atEnd => 7 | .sourceBusy => 8 | .reverse => 9 | .badSource => 10

def TripCause.code (x : TripCause) : Nat :=
  match x with
  | .overcurrent => 1 | .stall => 2 | .runtime => 3 | .esl => 4

def WatchState.code (x : WatchState) : Nat :=
  match x with
  | .off => 0 | .on => 1 | .alarmed => 2

def MotionCode.code (x : MotionCode) : Nat :=
  match x with
  | .moveOut => 3 | .moveIn => 4 | .goto => 5

/-- A direction, or an absent one (Table 11-14: OUT 0, IN 1, 0FFH none). -/
def dirCode (d : Option Dir) : Nat :=
  match d with
  | some .outward => 0
  | some .inward => 1
  | none => 255

/-- A number in one byte. -/
def oneByte (n : Nat) : List Byte := [BitVec.ofNat 8 n]

/-- A flag as a number. -/
def flag (b : Bool) : Nat := b.toNat

/-- `n` zero bytes. -/
def zeros (n : Nat) : List Byte := List.replicate n 0

/-- A counter in memory order. -/
def counterBytes (c : Counter) : List Byte := leBytes 2 c.toNat

/-- A stamp in memory order. -/
def stampBytes (t : Stamp) : List Byte := leBytes 4 t.toNat

/-! ### The plan page and the POST window (Tables 11-1, 11-11) -/

/-- The status word of the plan page, with the attempted sequence above it (R26). -/
def State.statusWord (s : State) : Word :=
  let p := s.loader
  let status := p.state.code + 4 * p.reason.code + 32 * p.index + 2048 * p.section_.code
  BitVec.ofNat 32 (status % 65536 + 65536 * p.attempted.toNat)

/-- The link state and last-captured words (POST offsets 8 to 19; R66). -/
def State.linkBytes (s : State) (l : LinkId) : List Byte :=
  let k := s.link l
  let pending := (k.pendingMode.map Mode.code).getD 0
  oneByte k.mode.code ++ oneByte (pending + 16 * k.health.code + 128 * flag k.recoveryArmed)
    ++ oneByte k.score.toNat ++ oneByte k.recoveryGaps
    ++ leBytes 2 k.lastCaptured.tag.toNat ++ oneByte k.lastCaptured.kind.code
    ++ oneByte k.lastCaptured.length ++ stampBytes k.lastCaptured.stamp

/-- The state word of a slot (slot offsets 4 to 11; R68). -/
def Slot.stateBytes (sl : Slot) : List Byte :=
  oneByte (sl.state.code + 16 * sl.purpose.code + 64 * flag sl.abortMark)
    ++ oneByte (sl.failReason.code + 128 * flag sl.armedTag.isSome)
    ++ oneByte sl.attempts.toNat ++ zeros 1 ++ leBytes 2 sl.answers.toNat
    ++ leBytes 2 (sl.armedTag.getD 0).toNat

/-! ### ECHO (Table 11-13, R107) -/

/-- The age of an entry's value (R107): all ones with no value. -/
def PollEntry.age (e : PollEntry) (now : Stamp) : Stamp :=
  if e.value.isSome then now - e.valueStamp else 0xFFFFFFFF#32

/-- The ECHO record of a poll entry. -/
def State.echoBytes (s : State) (p : PollId) : List Byte :=
  let set := s.pollSettings p
  let e := s.pollEntry p
  let value := e.value.getD []
  oneByte (flag set.isSome) ++ oneByte ((set.map (·.mode.code)).getD 0)
    ++ oneByte ((set.map (·.link.val)).getD 0) ++ oneByte e.state.code
    ++ leBytes 2 ((set.map (·.tag.toNat)).getD 0)
    ++ oneByte (flag e.value.isSome + 2 * flag e.stale) ++ oneByte value.length
    ++ leBytes 2 e.askCount.toNat ++ zeros 2 ++ stampBytes (e.age s.now) ++ padded value

/-! ### DRIVE (Table 11-14, R125) -/

/-- The fields of a trip record (record offsets 48 to 63); all 0 with none. -/
def tripBytes (t : Option TripRecord) : List Byte :=
  match t with
  | none => zeros 16
  | some t =>
    oneByte 1 ++ oneByte t.cause.code ++ oneByte (dirCode t.dir) ++ oneByte t.source.code
      ++ stampBytes t.stamp ++ signedBytes t.position ++ leBytes 2 t.peak.toNat
      ++ oneByte t.later.toNat ++ zeros 1

/-- The presented state of a channel (record offsets 16 to 63). R123 names the hold timer among what is presented; R125, R140
and Table 11-14 leave it out, and the model follows these (log 34). -/
def State.driveBytes (s : State) (c : ChanId) : List Byte :=
  let ch := s.chan c
  let k := s.prot c
  let target := (ch.motion.bind (·.target)).getD 0
  oneByte ch.state.code ++ oneByte ch.source.code ++ oneByte ch.stopReason.code
    ++ oneByte (dirCode ch.lastDir) ++ signedBytes ch.position ++ leBytes 2 ch.current.toNat
    ++ oneByte ch.duty ++ oneByte (flag ch.endOut + 2 * flag ch.endIn)
    ++ oneByte ((ch.motion.map (·.code.code)).getD 0) ++ oneByte ((ch.motion.map (·.speed)).getD 0)
    ++ zeros 2 ++ signedBytes target
    ++ oneByte ch.lastRefusal.reason.code ++ [ch.lastRefusal.code] ++ oneByte ch.lastRefusal.source.code
    ++ zeros 1 ++ stampBytes ch.lastRefusal.stamp
    ++ oneByte k.watch.code ++ zeros 1 ++ leBytes 2 k.creep.toNat ++ tripBytes k.trip

/-! ### LIVE (Table 11-15) -/

/-- The number of poll entries that satisfy a condition. -/
def State.countEntries (s : State) (f : PollId → PollEntry → Bool) : Nat :=
  ((List.finRange 32).filter fun p => f p (s.pollEntry p)).length

/-- The part section (bytes 0 to 31; R161). -/
def State.partBytes (s : State) : List Byte :=
  stampBytes s.now ++ oneByte s.loader.state.code ++ zeros 1 ++ leBytes 2 s.loader.inForce.toNat
    ++ leBytes 2 s.loader.attempted.toNat ++ zeros 2 ++ leBytes 4 s.status.causes.toNat
    ++ oneByte (flag s.attention) ++ oneByte s.status.pulsesOwed.toNat ++ zeros 14

/-- The counters block (bytes 32 to 63; R161). -/
def State.countersBytes (s : State) : List Byte :=
  counterBytes s.status.withheld ++ counterBytes s.status.memoryErrors
    ++ counterBytes s.status.repeaterLate ++ zeros 2 ++ leBytes 5 s.status.lastWithheld.toNat ++ zeros 3
    ++ oneByte (s.countEntries fun _ e => e.state == .late)
    ++ oneByte (s.countEntries fun p e => (s.pollSettings p).isSome && e.stale) ++ zeros 14

/-- A link section (R162). -/
def State.linkSection (s : State) (l : LinkId) : List Byte :=
  s.linkBytes l ++ LinkCounter.all.flatMap fun k => counterBytes ((TakeCounter.link l k).get s)

/-- A ring section (R162). -/
def State.ringSection (s : State) (r : RingId) : List Byte :=
  let g := s.ring r
  oneByte g.length ++ oneByte g.pending ++ oneByte g.reserved ++ zeros 1 ++ counterBytes g.overflows ++ zeros 2

/-- A channel section (R162). -/
def State.chanSection (s : State) (c : ChanId) : List Byte :=
  s.driveBytes c ++ counterBytes (s.chan c).refused ++ counterBytes (s.prot c).warnings
    ++ counterBytes (s.chan c).alarmsMerged ++ zeros 10

/-- A word of record `i` of `n`, each of so many words (Table 11-15); 0 past the last record. -/
def sectionWord (n words w : Nat) (bytes : Fin n → List Byte) : Word :=
  match toFin n (w / words) with
  | none => 0
  | some i => wordAt (bytes i) (w % words)

/-- A word of the LIVE page. -/
def State.liveWord (s : State) (w : Nat) : Word :=
  if w < 8 then wordAt s.partBytes w
  else if w < 16 then wordAt s.countersBytes (w - 8)
  else if w < 32 then sectionWord 2 8 (w - 16) s.linkSection
  else if w < 40 then sectionWord 4 2 (w - 32) s.ringSection
  else sectionWord 3 16 (w - 40) s.chanSection

/-! ### The snapshot of one word (R11) -/

/-- The value a substituted word presents now; none for a word of another class. -/
def State.present (s : State) (r : WordRef) : Option Word :=
  match r with
  | .planStatus => some s.statusWord
  | .planInForce => some (BitVec.ofNat 32 s.loader.inForce.toNat)
  | .linkState l w => some (wordAt (s.linkBytes l) (w - 2))
  | .slotState l i w => some (wordAt (s.slot l i).stateBytes (w - 1))
  | .echo _ p w => some (wordAt (s.echoBytes p) w)
  | .live _ w => some (s.liveWord w)
  | .presented c w => some (wordAt (s.driveBytes c) (w - 4))
  | .plain | .planSequence | .mode _ | .abortAll _ | .request _ _ | .host _ _ _ | .marker _ _
  | .entryBody _ _ | .command _ _ => none

end Sys2Proof.Machine
end

