-- ==== Sys2Proof/Machine/Repeater.lean ====
section
/-! DEFINITION. The Repeater (spec/10_the_helm_repeater_line.md): cycles, frames, the line, their data and plan changes. -/

namespace Sys2Proof.Machine

/-! ### Frames (R174) -/

/-- The byte that brings a sum of bytes to 0 modulo 256 (R174). -/
def checksum (bs : List Byte) : Byte := 0 - bs.foldl (· + ·) 0

/-- A frame's bytes in the order sent (Table 11-17). -/
def frameBytes (number : BitVec 8) (index : Nat) (memerr : Bool) (data : List Byte) : List Byte :=
  let counted := [number, BitVec.ofNat 8 index, flagByte memerr, BitVec.ofNat 8 data.length] ++ data
  0x7E#8 :: counted ++ [checksum counted]

/-- The data of a frame goes to SENDING and takes the frame number, or is HELD behind a frame finishing (R173, R174, R176). -/
def Repeater.ready (r : Repeater) (rate : RepeaterRate) (memerr : Bool) (data : List Byte) : Repeater :=
  if r.finishing.isSome then { r with frame := .held memerr data }
  else
    { r with
      frame := .sending ⟨rate, frameBytes r.number r.position memerr data, 0⟩
      number := r.number + 1 }

/-! ### HELM_TX (R171, R174, R177) -/

/-- The ten levels of a byte on HELM_TX, high as `true` (R174): a low start bit, the data bits least significant first, a
high stop bit. -/
def helmBits (b : Byte) : List Bool := false :: ((List.range 8).map b.getLsbD ++ [true])

/-- The level of a frame in the present bit-time; high once its last byte has gone (R174). -/
def SendingFrame.level (f : SendingFrame) : Bool :=
  match f.bytes with
  | [] => true
  | b :: _ => (helmBits b).getD f.bit true

/-- A frame one bit-time later: a byte leaves the bytes still to send at the end of its stop bit (R174). -/
def SendingFrame.bitTime (f : SendingFrame) : SendingFrame :=
  match f.bytes with
  | [] => f
  | _ :: bs => if f.bit < 9 then { f with bit := f.bit + 1 } else { f with bytes := bs, bit := 0 }

/-- The frame in hand one bit-time later. -/
def FrameInHand.bitTime (f : FrameInHand) : FrameInHand :=
  match f with
  | .sending g => .sending g.bitTime
  | .none | .awaiting _ _ | .held _ _ => f

/-- The frame on the line: the one finishing, else the one in hand if it is being sent (R171, R176). -/
def Repeater.onLine (r : Repeater) : Option SendingFrame :=
  match r.finishing, r.frame with
  | some f, _ => some f
  | none, .sending f => some f
  | none, .none | none, .awaiting _ _ | none, .held _ _ => none

/-- The level of HELM_TX, high as `true`: that of the frame on the line, and high with none (R171, R174) and while RESET_N is
asserted (R177). -/
def State.helmTx (s : State) : Bool := s.inReset || s.repeater.onLine.all SendingFrame.level

/-- One bit-time of HELM_TX passes (R174). -/
def Repeater.bitTime (r : Repeater) : Repeater :=
  { r with
    finishing := r.finishing.map SendingFrame.bitTime
    frame := if r.finishing.isSome then r.frame else r.frame.bitTime }

/-- What happens with no command waiting (log 3): one bit-time of HELM_TX. -/
def State.idle (s : State) : State := if s.inReset then s else s.modRepeater Repeater.bitTime

/-! ### Data (R173) -/

/-- The whole record of a presented source, from a PEEK snapshot (R118, R173). -/
def State.recordBytes (s : State) (p : Presented) : List Byte :=
  match p with
  | .link l => s.linkSection l
  | .channel c => s.chanSection c
  | .pollEntry e => s.echoBytes e
  | .counters => s.countersBytes

/-- The number of words that cover a memory range (R173). -/
def coverWords (start : Addr) (length : Nat) : Nat := (start.toNat % 4 + length + 3) / 4

/-- The first covering word of a memory range (R173). -/
def coverStart (start : Addr) : Addr := start - BitVec.ofNat 40 (start.toNat % 4)

/-- The beats of the reads that cover `n` words (R173): 16 and 1 where there are 17. -/
def coverReads (n : Nat) : List Nat := if n ≤ 16 then [n] else [16, n - 16]

/-- Submits the reads of a memory range in order (R173). -/
def State.submitCover (s : State) (gather : Nat) (start : Addr) (reads : List Nat) : State :=
  (List.range reads.length).foldl
    (fun t k =>
      t.submit ⟨.repeaterRead gather k, false, coverStart start + BitVec.ofNat 40 (64 * k), reads.getD k 0, []⟩) s

/-- The source of the present position. -/
def State.presentSource (s : State) : Option Source := s.plan.repeater.sources[s.repeater.position]?

/-- The frame of the present position is due (R173). -/
def State.frameDue (s : State) : State :=
  match s.presentSource with
  | none => s
  | some (.presented p) =>
    s.modRepeater fun r => r.ready s.plan.repeater.rate false (s.recordBytes p)
  | some (.memory start length) =>
    let reads := coverReads (coverWords start length)
    State.submitCover
      (s.modRepeater fun r =>
        { r with
          frame := .awaiting r.gatherSerial (reads.map fun n => ⟨n, none, false⟩)
          gatherSerial := r.gatherSerial + 1 })
      s.repeater.gatherSerial start reads

/-! ### Cycles (R172) -/

/-- A cycle begins (R172); with no source in use it ends at the same event. -/
def State.beginCycle (s : State) : State :=
  State.frameDue
    (s.modRepeater fun r =>
      { r with cycle := if s.plan.repeater.sources = [] then .idle else .cycling, position := 0 })

/-- The period timer expires (R172). -/
def State.periodExpires (s : State) : State :=
  let t := s.modRepeater fun r => { r with timer := r.timer.map fun e => later e s.plan.repeater.period }
  match s.repeater.cycle with
  | .off => s
  | .idle => t.beginCycle
  | .cycling => (t.bump .repeaterLate).modRepeater fun r => { r with owed := true }

/-- The frame of the present position has been sent (R172), whatever bit-times of it were still to pass (log 16). -/
def State.frameEnds (s : State) : State :=
  let t := s.modRepeater fun r => { r with frame := .none }
  if s.repeater.position + 1 < s.plan.repeater.sources.length then
    (t.modRepeater fun r => { r with position := r.position + 1 }).frameDue
  else if s.repeater.owed then (t.modRepeater fun r => { r with owed := false }).beginCycle
  else t.modRepeater fun r => { r with cycle := .idle }

/-! ### Reads (R173, R175) -/

/-- A frame's read with its completion recorded. -/
def FramePart.finish (p : FramePart) (code : DownCode) (ws : List Word) : FramePart :=
  { p with done := true, words := if code = .okay then some ws else none }

/-- The bytes of a range cut from the words of its reads (R173). -/
def cutRange (start : Addr) (length : Nat) (parts : List FramePart) : List Byte :=
  (((parts.flatMap fun p => p.words.getD []).flatMap bytesOf).drop (start.toNat % 4)).take length

/-- The data of a frame all of whose reads have completed (R173), or none where one was answered MEMERR (R175). -/
def State.rangeData (s : State) (parts : List FramePart) : Option (List Byte) :=
  if parts.any fun p => p.words.isNone then none
  else
    match s.presentSource with
    | some (.memory start length) => some (cutRange start length parts)
    | _ => none

/-- A frame's reads with one of them completed: the frame is ready after the last (R173, R175). -/
def State.partsRead (s : State) (gather : Nat) (parts : List FramePart) : State :=
  s.modRepeater fun r =>
    if parts.all (·.done) then
      match s.rangeData parts with
      | some bs => r.ready s.plan.repeater.rate false bs
      | none => r.ready s.plan.repeater.rate true []
    else { r with frame := .awaiting gather parts }

/-- A memory-range read completes (R175); one of an abandoned frame is discarded (R176). -/
def State.rangeRead (s : State) (gather part : Nat) (code : DownCode) (ws : List Word) : State :=
  match s.repeater.frame with
  | .awaiting g parts =>
    if g = gather then s.partsRead g (parts.modify part fun p => p.finish code ws) else s
  | .none | .held _ _ | .sending _ => s

/-! ### Plans (R176) -/

/-- The frame that goes on to its end after a plan change (R176, step 1). -/
def Repeater.leftFinishing (r : Repeater) : Option SendingFrame :=
  match r.frame with
  | .sending f => some f
  | .none | .awaiting _ _ | .held _ _ => r.finishing

/-- A plan comes into force (R176, steps 1 to 3). -/
def Repeater.newPlan (r : Repeater) (period : Nat) (now : Stamp) : Repeater :=
  { r with
    finishing := r.leftFinishing
    frame := .none
    owed := false
    cycle := if period = 0 then .off else r.cycle
    timer := if period = 0 then none else some (later now period) }

/-- The Repeater restarts under the plan now in force (R44, R176). -/
def State.restartRepeater (s : State) : State :=
  let t := s.modRepeater fun r => r.newPlan s.plan.repeater.period s.now
  if s.plan.repeater.period = 0 then t else t.beginCycle

/-- The frame finishing has been sent, and a HELD frame goes to SENDING (R176; log 16). -/
def State.finishingEnds (s : State) : State :=
  s.modRepeater fun r =>
    let r' := { r with finishing := none }
    match r.frame with
    | .held memerr data => r'.ready s.plan.repeater.rate memerr data
    | .none | .awaiting _ _ | .sending _ => r'

end Sys2Proof.Machine
end

