-- ==== Sys2Proof/Machine/PlanForce.lean ====
section
/-! DEFINITION. The Plan Loader (spec/02_the_plan.md R27 to R31) and what a plan coming into force does in every block (R40
to R44, R103, R117, R169, R176; the order inside the event is log 28's). -/

namespace Sys2Proof.Machine

/-! ### Loading (R27 to R30) -/

/-- No page data received. -/
def Page.empty : Page := Vector.replicate 64 []

/-- A sequence trigger (R27): any load in flight is abandoned and a new one begins. -/
def PlanLoader.trigger (p : PlanLoader) (value : Word) : PlanLoader :=
  { p with
    state := .loading
    reason := .none
    section_ := .none
    index := 0
    attempted := value.setWidth 16
    load := some ⟨p.loadSerial, value, .awaitingNotice, 0, 0, Page.empty⟩
    loadSerial := p.loadSerial + 1 }

/-- Read `i` of a load submitted (R29). -/
def State.submitPlanRead (s : State) (serial i : Nat) : State :=
  s.submit ⟨.planRead serial i, false, planBase s.planSel + BitVec.ofNat 40 (64 * i), 16, []⟩

/-- A load that has submitted its first two reads (R28). -/
def Load.begin (l : Load) : Load := { l with stage := .reading, nextRead := 2, outstanding := 2 }

/-- The load in flight, if it is the one of this serial number (R28). -/
def State.loadOf (s : State) (serial : Nat) : Option Load := s.loader.load.filter fun l => l.serial == serial

/-- A plan notice is delivered (R28). -/
def State.planNoticed (s : State) (serial : Nat) : State :=
  match s.loadOf serial with
  | none => s
  | some l =>
    match l.stage with
    | .awaitingNotice =>
      ((s.modLoader fun p => { p with load := some l.begin }).submitPlanRead serial 0).submitPlanRead serial 1
    | .reading => s

/-- The load ends refused (R30, R31): the plan in force is kept, and cause PLAN is raised. -/
def State.refusePlan (s : State) (f : PlanFault) : State :=
  (s.modLoader fun p =>
    { p with state := .refused, reason := f.reason, section_ := f.section_, index := f.index, load := none }).raise
    .plan

/-! ### Into force: the blocks (R41 to R43, R117) -/

/-- The Plan Loader with a plan in force (R31). -/
def PlanLoader.force (p : PlanLoader) (q : Plan) : PlanLoader :=
  { p with
    state := .inForce
    reason := .none
    section_ := .none
    index := 0
    inForce := p.attempted
    plan := q
    load := none }

/-- A ring reset with a new length; its OVERFLOWS is kept (R41, R103). -/
def Ring.resize (r : Ring) (length : Nat) : Ring :=
  { Ring.reset with length := length, conds := List.replicate length .free, overflows := r.overflows }

/-- An ARMED slot becomes IDLE, without a cause (R41). -/
def Slot.disarm (sl : Slot) : Slot := if sl.state = .armed then sl.settle .idle else sl

/-- A link under a changed recovery setting (R41). -/
def LinkCtl.newRecovery (k : LinkCtl) (old new : RecoverySetting) : LinkCtl :=
  if old = new ∨ k.health ≠ .silent then k
  else
    match new with
    | .auto => { k with recoveryArmed := true, recoveryGaps := 0 }
    | .manual => { k with recoveryArmed := false }

/-- A poll entry is reset by the change of its settings (R42). -/
def pollResets (old new : Option PollSettings) : Bool :=
  match old, new with
  | none, none => false
  | some a, some b => a.link != b.link || a.tag != b.tag
  | _, _ => true

/-- An entry changes from ASK to HEAR (R42). -/
def pollTurnsToHear (old new : Option PollSettings) : Bool :=
  (old.any fun a => a.mode == .ask) && new.any fun b => b.mode == .hear

/-- Any ASK outstanding for an entry is abandoned (R42). -/
def pollDrops (old new : Option PollSettings) : Bool := pollResets old new || pollTurnsToHear old new

/-- The auto timer that starts with settings (R110, R117). -/
def autoStart (k : PollSettings) (now : Stamp) : Option Stamp :=
  if k.autoInterval = 0 then none else some (later now k.autoInterval)

/-- A reset entry under its new settings (R42, R117). -/
def PollEntry.restart (new : Option PollSettings) (now : Stamp) : PollEntry :=
  { PollEntry.reset with autoTimer := new.bind fun k => autoStart k now }

/-- An entry under a new maximum age (R117). -/
def PollEntry.newAge (e : PollEntry) (maxAge : Nat) (now : Stamp) : PollEntry :=
  let passed := e.value.isSome && maxAge != 0 && maxAge < elapsed now e.valueStamp
  { e with
    stale := passed
    staleTimer := if passed || e.value.isNone then none else staleExpiry maxAge e.valueStamp }

/-- An entry that turns from ASK to HEAR (R117). -/
def PollEntry.toHear (e : PollEntry) : PollEntry :=
  { e with state := if e.value.isSome then .fresh else .never, replyTimer := none }

/-- An entry valid in both plans with unchanged link and Tag (R42, R117). -/
def PollEntry.adjust (e : PollEntry) (old new : PollSettings) (now : Stamp) : PollEntry :=
  let e := if old.mode = .ask ∧ new.mode = .hear then e.toHear else e
  let e := if old.autoInterval = new.autoInterval then e else { e with autoTimer := autoStart new now }
  if old.maxAge = new.maxAge then e else e.newAge new.maxAge now

/-- An entry under new settings (R42, R117). -/
def PollEntry.replan (e : PollEntry) (old new : Option PollSettings) (now : Stamp) : PollEntry :=
  if pollResets old new then PollEntry.restart new now
  else
    match old, new with
    | some a, some b => e.adjust a b now
    | _, _ => e

/-- The outstanding ASKs that a new poll table abandons are dropped on the links they were made for (R42). -/
def State.dropAsks (s : State) (old new : Plan) : State :=
  (List.finRange 32).foldl
    (fun t p =>
      match look old.poll p with
      | none => t
      | some a => if pollDrops (some a) (look new.poll p) then t.dropAsk a.link p else t) s

/-- The poll cache under a new poll table (R42, R117), with both poll senders taking their next entries. -/
def State.replanPoll (s : State) (old new : Plan) : State :=
  let t := s.dropAsks old new
  (State.pollTake
    { t with poll := { t.poll with
        entries := updateAll t.poll.entries fun p e => e.replan (look old.poll p) (look new.poll p) s.now } }
    0).pollTake 1

/-- The rings, slots and links under a new plan (R41). -/
def State.replanLinks (s : State) (old new : Plan) (moves : RingId → Bool) : State :=
  { s with
    ringWriter := { s.ringWriter with
      rings := updateAll s.ringWriter.rings fun r g => if moves r then g.resize (effectiveLength new r) else g }
    senders := updateAll s.senders fun l c =>
      if old.windowBase (.post l) = new.windowBase (.post l) then c else { c with slots := c.slots.map Slot.disarm }
    links := updateAll s.links fun l k => k.newRecovery (look old.links l).recovery (look new.links l).recovery }

/-- A channel in READY without settings goes to SAFE (R43). -/
def State.withoutSettings (s : State) (c : ChanId) : Bool :=
  (s.chan c).state == .ready && (s.driveSettings c).isNone

/-- The channels under the plan now in force (R43), with every guard judged afresh. -/
def State.replanChannels (s : State) : State :=
  State.reevaluate
    { s with
      chans := updateAll s.chans fun c ch => if s.withoutSettings c then ch.rest .safe else ch
      prots := updateAll s.prots fun c k => if s.withoutSettings c then k.rest else k }

/-- The plan itself and the attention line's mode (R31, R40, R169). -/
def State.switchPlan (s : State) (q : Plan) : State :=
  { s with
    loader := s.loader.force q
    status := s.status.lineModeChange s.plan.lineMode q.lineMode }

/-- A plan that passed every check comes into force (R31, R40 to R44). -/
def State.forcePlan (s : State) (q : Plan) : State :=
  (((((s.switchPlan q).replanLinks s.plan q (s.ringMoves q)).replanPoll s.plan
    q).replanChannels).restartRepeater).raise .plan

/-- The checks run (R31). -/
def State.endLoad (s : State) (l : Load) : State :=
  match s.checkPlan l.page l.value with
  | some f => s.refusePlan f
  | none => s.forcePlan (pagePlan l.page)

/-! ### Reads of the page (R29, R30) -/

/-- A load with the words of read `i` stored, and whether it has a next read to submit (R29). -/
def Load.store (l : Load) (i : Nat) (ws : List Word) : Load :=
  let more := l.nextRead < 64
  { l with
    page := if h : i < 64 then l.page.set i ws else l.page
    nextRead := if more then l.nextRead + 1 else l.nextRead
    outstanding := if more then l.outstanding else l.outstanding - 1 }

/-- A read of the load in flight has completed OKAY (R29). -/
def State.planReadStored (s : State) (l : Load) (i : Nat) (ws : List Word) : State :=
  let l' := l.store i ws
  let t := s.modLoader fun p => { p with load := some l' }
  if l.nextRead < 64 then t.submitPlanRead l.serial l.nextRead
  else if l'.outstanding = 0 then t.endLoad l'
  else t

/-- A plan page read completes (R29, R30); one of an abandoned load is discarded. -/
def State.planRead (s : State) (serial i : Nat) (code : DownCode) (ws : List Word) : State :=
  match s.loadOf serial with
  | none => s
  | some l =>
    match code with
    | .okay => s.planReadStored l i ws
    | .other => s.refusePlan ⟨.readFailed, .page, i⟩

end Sys2Proof.Machine
end

