-- ==== Sys2Proof/Machine/Completions.lean ====
section
/-! DEFINITION. The completions of internal transfers (R19, R20). A response that answers no transfer in flight of the
command's kind is ignored (R22, log 2). -/

namespace Sys2Proof.Machine

/-- The purpose of the internal transfer that a response answers (R19). -/
def State.answeredPurpose (s : State) (nth : Nat) (code : DownCode) (words : Nat) : Option Purpose :=
  (s.path.answered nth code words).map (·.purpose)

/-- A plan page read completes (R29, R30). -/
def State.planReadCompletes (s : State) (nth : Nat) (code : DownCode) (data : List Word) : State :=
  match s.answeredPurpose nth code data.length with
  | some (.planRead serial i) => (s.complete nth code).planRead serial i code data
  | _ => s

/-- PLAN_READ_COMPLETE (R29). -/
def execPlanReadComplete (nth : Nat) (code : DownCode) (data : List Word) (s : State) :
    Host.Outcome State Fault Refusal :=
  .next (s.event fun t => t.planReadCompletes nth code data)

/-- A slot fetch completes (R74). -/
def State.slotFetchCompletes (s : State) (nth : Nat) (code : DownCode) (data : List Word) : State :=
  match s.answeredPurpose nth code data.length with
  | some (.fetch l i fetch) => (s.complete nth code).fetchCompleted l i fetch code data
  | _ => s

/-- SLOT_FETCH_COMPLETE (R74). -/
def execSlotFetchComplete (nth : Nat) (code : DownCode) (data : List Word) (s : State) :
    Host.Outcome State Fault Refusal :=
  .next (s.event fun t => t.slotFetchCompletes nth code data)

/-- An entry's body write completes (R98, R99). -/
def State.bodyWriteCompletes (s : State) (nth : Nat) (code : DownCode) : State :=
  match s.answeredPurpose nth code 0 with
  | some .ringBody => (s.complete nth code).bodyWritten code
  | _ => s

/-- RING_BODY_WRITE_COMPLETE (R98). -/
def execRingBodyWriteComplete (nth : Nat) (code : DownCode) (s : State) : Host.Outcome State Fault Refusal :=
  .next (s.event fun t => t.bodyWriteCompletes nth code)

/-- An entry's marker write completes (R98, R99). -/
def State.markerWriteCompletes (s : State) (nth : Nat) (code : DownCode) : State :=
  match s.answeredPurpose nth code 0 with
  | some .ringMarker => (s.complete nth code).markerWritten code
  | _ => s

/-- RING_MARKER_WRITE_COMPLETE (R98). -/
def execRingMarkerWriteComplete (nth : Nat) (code : DownCode) (s : State) : Host.Outcome State Fault Refusal :=
  .next (s.event fun t => t.markerWriteCompletes nth code)

/-- A memory-range read completes (R175, R176). -/
def State.repeaterReadCompletes (s : State) (nth : Nat) (code : DownCode) (data : List Word) : State :=
  match s.answeredPurpose nth code data.length with
  | some (.repeaterRead gather part) => (s.complete nth code).rangeRead gather part code data
  | _ => s

/-- REPEATER_READ_COMPLETE (R175). -/
def execRepeaterReadComplete (nth : Nat) (code : DownCode) (data : List Word) (s : State) :
    Host.Outcome State Fault Refusal :=
  .next (s.event fun t => t.repeaterReadCompletes nth code data)

end Sys2Proof.Machine
end

