-- ==== Sys2Proof/Machine/LineCommands.lean ====
section
/-! DEFINITION. The commands of the deck lines: each carries the levels read, and what they bring about at their last
bit-time must be the command's own event (log 9). -/

namespace Sys2Proof.Machine

/-- QUIET_GAP (R50, R60): a gap that completes a recovery is RECOVERY's. -/
def execQuietGap (l : LinkId) (levels : List Level) (s : State) : Host.Outcome State Fault Refusal :=
  .next (if (s.link l).lastGap then s else s.event fun t => t.wire l levels .gap fun u => u.quietGap l)

/-- RECOVERY (R60): the 64th gap. -/
def execRecovery (l : LinkId) (levels : List Level) (s : State) : Host.Outcome State Fault Refusal :=
  .next (if (s.link l).lastGap then s.event fun t => t.wire l levels .gap fun u => u.recover l else s)

/-- START_MARK_READ (R50). -/
def execStartMarkRead (l : LinkId) (levels : List Level) (s : State) : Host.Outcome State Fault Refusal :=
  .next (s.event fun t => t.wire l levels .startMark fun u => u.modLink l LinkCtl.receive)

/-- ARBITRATION_LOST (R52). -/
def execArbitrationLost (l : LinkId) (levels : List Level) (s : State) : Host.Outcome State Fault Refusal :=
  .next (s.event fun t => t.wire l levels .lost fun u => u.arbitrationLost l)

/-- MESSAGE_SENT (R54). -/
def execMessageSent (l : LinkId) (levels : List Level) (s : State) : Host.Outcome State Fault Refusal :=
  .next (s.event fun t => t.wire l levels .sentOk fun u => u.messageSent l)

/-- MESSAGE_RECEIVED (R54). -/
def execMessageReceived (l : LinkId) (levels : List Level) (s : State) : Host.Outcome State Fault Refusal :=
  .next (s.event fun t => t.wire l levels .receivedOk fun u => u.messageReceived l)

/-- SHAPE_ERROR (R55, R56). -/
def execShapeError (l : LinkId) (levels : List Level) (s : State) : Host.Outcome State Fault Refusal :=
  .next (s.event fun t => t.wire l levels .shape fun u => u.shapeError l)

/-- CHECK_ERROR (R55, R56). -/
def execCheckError (l : LinkId) (levels : List Level) (s : State) : Host.Outcome State Fault Refusal :=
  .next (s.event fun t => t.wire l levels .check fun u => u.checkError l)

/-- NO_CONFIRM_ERROR (R55, R56). -/
def execNoConfirmError (l : LinkId) (levels : List Level) (s : State) : Host.Outcome State Fault Refusal :=
  .next (s.event fun t => t.wire l levels .noConfirm fun u => u.sendingError l .noConfirm)

/-- CLASH_ERROR (R55, R56). -/
def execClashError (l : LinkId) (levels : List Level) (s : State) : Host.Outcome State Fault Refusal :=
  .next (s.event fun t => t.wire l levels .clash fun u => u.sendingError l .clash)

/-- STUCK (R58). -/
def execStuck (l : LinkId) (levels : List Level) (s : State) : Host.Outcome State Fault Refusal :=
  .next (s.event fun t => t.wire l levels .stuck fun u => u.stuckError l)

/-- ERROR_MARK_END (R57). -/
def execErrorMarkEnd (l : LinkId) (levels : List Level) (s : State) : Host.Outcome State Fault Refusal :=
  .next (s.event fun t => t.wire l levels .markEnd fun u => u.markEnds l)

/-- QUIET_WAKE (R65). -/
def execQuietWake (l : LinkId) (levels : List Level) (s : State) : Host.Outcome State Fault Refusal :=
  .next (s.event fun t => t.wire l levels .wake fun u => u.wake l)

/-- The 12 bit-times of MIRROR run (R64): no message is mirrored, and they have not passed. -/
def LinkCtl.inMirrorGap (k : LinkCtl) : Bool := k.mode == .mirror && k.item.isNone && !k.mirrorGap

/-- MIRROR_GAP_END (R64). -/
def execMirrorGapEnd (l : LinkId) (s : State) : Host.Outcome State Fault Refusal :=
  .next (if (s.link l).inMirrorGap then s.event fun t => t.mirrorGapEnds l else s)

/-- The message being mirrored (R64). -/
def LinkCtl.mirrored (k : LinkCtl) : Option Message := if k.mode = .mirror then k.item.map (·.message) else none

/-- MIRRORED_MESSAGE_END (R64). -/
def execMirroredMessageEnd (l : LinkId) (s : State) : Host.Outcome State Fault Refusal :=
  .next (match (s.link l).mirrored with
    | none => s
    | some m => s.event fun t => t.mirroredEnds l m)

end Sys2Proof.Machine
end

