-- ==== Sys2Proof/Machine/MotorCommands.lean ====
section
/-! DEFINITION. The events of the drive channels and of the emergency stop line. One that is not due is out of place and
changes nothing (log 2, log 15). -/

namespace Sys2Proof.Machine

/-- RAMP_END (R133, R143). -/
def execRampEnd (c : ChanId) (s : State) : Host.Outcome State Fault Refusal :=
  .next (if s.rampDue c then s.event fun t => t.rampEnds c else s)

/-- CURRENT_CONVERSION (R121, R141). -/
def execCurrentConversion (c : ChanId) (v : Current) (s : State) : Host.Outcome State Fault Refusal :=
  .next (s.event fun t => t.convert c v)

/-- OVERCURRENT_EVENT (R142). -/
def execOvercurrentEvent (c : ChanId) (s : State) : Host.Outcome State Fault Refusal :=
  .next (if s.overcurrentDue c then s.event fun t => t.overcurrent c else s)

/-- PULSE (R134). -/
def execPulse (c : ChanId) (s : State) : Host.Outcome State Fault Refusal := .next (s.event fun t => t.pulse c)

/-- END_SWITCH_CHANGE (R135): a level that differs from the one held. -/
def execEndSwitchChange (c : ChanId) (which : Dir) (active : Bool) (s : State) : Host.Outcome State Fault Refusal :=
  .next (if (s.chan c).endActive which = active then s else s.event fun t => t.endSwitch c which active)

/-- DWELL_EXPIRY (R138). -/
def execDwellExpiry (c : ChanId) (s : State) : Host.Outcome State Fault Refusal :=
  .next (if s.dwellDue c then s.event fun t => t.toRest c .ready else s)

/-- STALL_EXPIRY (R143). After another trip of its channel it is no longer due (R145, R146; log 35). -/
def execStallExpiry (c : ChanId) (s : State) : Host.Outcome State Fault Refusal :=
  .next (if due s.now (s.prot c).stallExpiry then s.event fun t => t.trip c .stall else s)

/-- RUNTIME_EXPIRY (R144). After another trip of its channel it is no longer due (R145, R146; log 35). -/
def execRuntimeExpiry (c : ChanId) (s : State) : Host.Outcome State Fault Refusal :=
  .next (if due s.now (s.prot c).runExpiry then s.event fun t => t.trip c .runtime else s)

/-- HOLD_EXPIRY (R154). -/
def execHoldExpiry (c : ChanId) (s : State) : Host.Outcome State Fault Refusal :=
  .next (if due s.now (s.prot c).holdExpiry then s.event fun t => t.stopMotion c .holdLapse else s)

/-- The line becomes asserted (R148), in an order that is a free value (log 17). -/
def State.eslAsserts (s : State) : State :=
  { s.eslTrips (chanOrder (Config.eslOrder s.freeCount)) with freeCount := s.freeCount + 1 }

/-- ESL_ASSERTION (R148): a change from deasserted. -/
def execEslAssertion (s : State) : Host.Outcome State Fault Refusal :=
  .next (if s.esl then s else s.event State.eslAsserts)

/-- ESL_RELEASE (R148). -/
def execEslRelease (s : State) : Host.Outcome State Fault Refusal := .next (s.event fun t => { t with esl := false })

end Sys2Proof.Machine
end

