-- ==== Sys2Proof/Machine/Path.lean ====
section
/-! DEFINITION. The Path Unit and the downstream arbiter (spec/01_the_memory_path.md): taking, decisions, snapshots,
pieces, notices, grants, answers and responses. -/

namespace Sys2Proof.Machine

/-! ### Beats of a transfer -/

/-- The direction of a transfer. -/
def isWriteTransfer (t : Transfer) : Bool :=
  match t.op with
  | .read _ => false
  | .write _ => true

/-- The beats a write carries; a read carries none. -/
def writeBeats (t : Transfer) : List WriteBeat :=
  match t.op with
  | .read _ => []
  | .write bs => bs

/-- A beat with its word: what a write asks of the word's owner. -/
abbrev Touch := WordRef × WriteBeat

/-- The beats of a write with their words. -/
def State.touches (s : State) (t : Transfer) : List Touch := (s.refsOf t).zip (writeBeats t)

/-- Every byte of the beat is enabled. -/
def WriteBeat.full (b : WriteBeat) : Bool := b.enables == 15#4

/-- The data that a full beat writes to a word in this transfer, if one does. -/
def fullWrite (ts : List Touch) (r : WordRef) : Option Word :=
  ((ts.find? fun x => x.1 == r && WriteBeat.full x.2)).map fun x => x.2.data

/-! ### Owner decisions (R6, R7, R9) -/

/-- The mode a mode word names (R62). -/
def modeOf (w : Word) : Option Mode := [Mode.setup, .run, .listen, .mirror, .quiet].find? fun m => m.code == w.toNat

/-- The codes of a request word (Table 11-11). -/
def sendCode : Word := 1
def answerCode : Word := 2
def abortCode : Word := 3

/-- A slot request is accepted (R70 to R72). -/
def State.acceptsRequest (s : State) (l : LinkId) (i : SlotId) (w : Word) : Bool :=
  if w = sendCode ∨ w = answerCode then (s.slot l i).state.free && (s.link l).mode != Mode.setup else w == abortCode

/-- The owner of a trigger word accepts a full write (R6). -/
def State.acceptsTrigger (s : State) (r : WordRef) (w : Word) : Bool :=
  match r with
  | .planSequence => true
  | .mode l => (modeOf w).any fun m => (s.link l).acceptsMode m
  | .abortAll _ => w == 1
  | .request l i => s.acceptsRequest l i w
  | .marker g e => w == 0 && (s.ring g).mayRelease e
  | .plain | .planStatus | .planInForce | .linkState _ _ | .slotState _ _ _ | .host _ _ _ | .entryBody _ _
  | .echo _ _ _ | .live _ _ | .command _ _ | .presented _ _ => false

/-- The owner of a guarded word admits a write (R74, R100). -/
def State.admits (s : State) (r : WordRef) : Bool :=
  match r with
  | .host l i _ => !(s.slot l i).state.owned
  | .entryBody g e => (s.ring g).cond e != .reserved
  | _ => false

/-- The command that a transfer presents to a channel, if it does (R7, R124): all four words, each in a full beat. -/
def presentedCommand (ts : List Touch) (c : ChanId) : Option DriveCommand :=
  match fullWrite ts (.command c 0), fullWrite ts (.command c 1), fullWrite ts (.command c 2),
    fullWrite ts (.command c 3) with
  | some w0, some w1, some _, some _ => some (blockCommand w0 w1)
  | _, _, _, _ => none

/-- The Drive Controller accepts the block of a channel (R124). -/
def State.acceptsBlock (s : State) (ts : List Touch) (c : ChanId) : Bool :=
  (presentedCommand ts c).any fun d => (s.judge c .zone d).isNone

/-! ### Dispositions (Table 1-3) -/

/-- The disposition of a write beat with a byte enabled. -/
def State.writeDisposition (s : State) (ts : List Touch) (x : Touch) : Disposition :=
  match x.1.wordClass with
  | .plain => .pass
  | .trigger => if WriteBeat.full x.2 && s.acceptsTrigger x.1 x.2.data then .passTrigger else .withhold
  | .guarded => if s.admits x.1 then .pass else .withhold
  | .substituted => .withhold
  | .commandBlock =>
    match x.1 with
    | .command c _ => if s.acceptsBlock ts c then .passTrigger else .withhold
    | _ => .withhold

/-- The disposition of a write beat (R5): one with no byte enabled passes in every class. -/
def State.beatDisposition (s : State) (ts : List Touch) (x : Touch) : Disposition :=
  if x.2.enables = 0 then .pass else s.writeDisposition ts x

/-- The disposition of a read beat (Table 1-3). -/
def readDisposition (r : WordRef) : Disposition :=
  if r.wordClass = .substituted then .substitute else .pass

/-- The dispositions of a transfer, in beat order (R5). -/
def State.dispositions (s : State) (t : Transfer) : List Disposition :=
  match t.op with
  | .read _ => (s.refsOf t).map readDisposition
  | .write _ => (s.touches t).map (s.beatDisposition (s.touches t))

/-! ### Effects of accepted triggers (R9) -/

/-- The Tag that a transfer writes whole into a slot's Tag field (R71): its word's bytes 2 and 3 are enabled. -/
def writtenTag (ts : List Touch) (l : LinkId) (i : SlotId) : Option Tag :=
  (ts.find? fun x => x.1 == .host l i 3 && x.2.enables &&& 12#4 == 12#4).map fun x => x.2.data.extractLsb' 16 16

/-- A sequence trigger and its notice (R27). -/
def State.sequenceTrigger (s : State) (value : Word) : State × List Notice :=
  (s.modLoader fun p => p.trigger value, [.plan s.loader.loadSerial])

/-- An accepted ANSWER (R71). -/
def State.answerRequest (s : State) (ts : List Touch) (l : LinkId) (i : SlotId) : State × List Notice :=
  match writtenTag ts l i with
  | some g => (s.armNow l i g, [])
  | none => (s.requestFetch l i .answer, s.fetchNotice l i)

/-- An accepted slot request (R70 to R72). -/
def State.slotRequest (s : State) (ts : List Touch) (l : LinkId) (i : SlotId) (w : Word) : State × List Notice :=
  if w = sendCode then (s.requestFetch l i .send, s.fetchNotice l i)
  else if w = answerCode then s.answerRequest ts l i
  else (s.abortSlot l i, [])

/-- The effect of an accepted trigger, and its notices. -/
def State.triggerEffect (s : State) (ts : List Touch) (r : WordRef) (w : Word) : State × List Notice :=
  match r with
  | .planSequence => s.sequenceTrigger w
  | .mode l =>
    match modeOf w with
    | none => (s, [])
    | some m => (s.requestMode l m, [])
  | .abortAll l => (s.abortSends l, [])
  | .request l i => s.slotRequest ts l i w
  | .marker g e => (s, s.releaseNotice g e)
  | .plain | .planStatus | .planInForce | .linkState _ _ | .slotState _ _ _ | .host _ _ _ | .entryBody _ _
  | .echo _ _ _ | .live _ _ | .command _ _ | .presented _ _ => (s, [])

/-- The first word of a channel's block that a transfer writes at least one byte of. -/
def firstTouched (ts : List Touch) (c : ChanId) : Option WordRef :=
  (ts.find? fun x =>
    x.2.enables != 0 &&
      match x.1 with
      | .command d _ => d == c
      | _ => false).map (·.1)

/-- What a transfer does to the channel whose block it touches (R124, R127): the command applied or refused as it was
judged, or BAD_WRITE recorded once. -/
def State.blockEffect (s : State) (judged : State) (ts : List Touch) (c : ChanId) : State :=
  match presentedCommand ts c with
  | none => s.refuse c .zone .badWrite 0
  | some d =>
    match judged.judge c .zone d with
    | some r => s.refuse c .zone r d.code
    | none => s.applyCommand c .zone d

/-- The effect of one beat of a write, judged against the state before the transfer. -/
def State.beatEffect (judged : State) (ts : List Touch) (acc : State × List Notice) (x : Touch) :
    State × List Notice :=
  match x.1 with
  | .command c _ =>
    if x.2.enables ≠ 0 ∧ firstTouched ts c = some x.1 then (acc.1.blockEffect judged ts c, acc.2) else acc
  | r =>
    if judged.beatDisposition ts x = .passTrigger then
      let e := acc.1.triggerEffect ts r x.2.data
      (e.1, acc.2 ++ e.2)
    else acc

/-- The effects of a write in beat order, with its notices (R9, R10). -/
def State.writeEffects (s : State) (ts : List Touch) : State × List Notice := ts.foldl (s.beatEffect ts) (s, [])

/-! ### Snapshot and read-side actions (R11, R12) -/

/-- The snapshot of a read: one place a beat, filled for the substituted ones (R11). -/
def State.snapshotOf (s : State) (t : Transfer) : List (Option Word) :=
  match t.op with
  | .read _ => (s.refsOf t).map s.present
  | .write _ => []

/-- The LIVE words of the ACTIVE view that a read covers (R164). -/
def liveCovered (rs : List WordRef) : List Nat :=
  rs.filterMap fun r =>
    match r with
    | .live .active w => some w
    | _ => none

/-- The poll entries of the ACTIVE ECHO window that a read covers, in increasing order (R108). -/
def echoCovered (rs : List WordRef) : List PollId :=
  (List.finRange 32).filter fun p =>
    rs.any fun r =>
      match r with
      | .echo .active q _ => q == p
      | _ => false

/-- The read-side actions of a read (R12). -/
def State.readActions (s : State) (rs : List WordRef) : State := (s.takeWords (liveCovered rs)).latentFetch (echoCovered rs)

/-! ### The withheld-write capture (R16) -/

/-- The lowest-numbered withheld beat. -/
def firstWithheld (ds : List Disposition) : Option Nat := ds.findIdx? fun d => d == .withhold

/-- The withheld-write capture of a transfer (R16). -/
def State.captureWithheld (s : State) (t : Transfer) (ds : List Disposition) : State :=
  match firstWithheld ds with
  | none => s
  | some k =>
    ((s.bump .withheld).modStatus fun u => { u with lastWithheld := beatAddr t k }).raise .withheld

/-! ### Pieces (R13) -/

/-- The beat is bound for memory (R13). -/
def Disposition.passes (d : Disposition) : Bool := d == .pass || d == .passTrigger

/-- The longest runs of beats bound for memory, as first beat and count, from beat `k` on with a run of `n` beats
open before it (R13). -/
def passRuns (k n : Nat) (ds : List Disposition) : List (Nat × Nat) :=
  match ds with
  | [] => if n = 0 then [] else [(k - n, n)]
  | d :: ds =>
    if d.passes then passRuns (k + 1) (n + 1) ds
    else if n = 0 then passRuns (k + 1) 0 ds
    else (k - n, n) :: passRuns (k + 1) 0 ds

/-- The pieces of a transfer (R13). -/
def piecesOf (t : Transfer) (ds : List Disposition) : List Piece :=
  (passRuns 0 0 ds).map fun r => ⟨r.1, r.2, ((writeBeats t).drop r.1).take r.2, .unissued, .okay, []⟩

/-! ### Order entries (R2, R3, R10, R15) -/

/-- The states of an order entry (Table 1-2). -/
inductive EntryState where
  | pending | outstanding | ready
  deriving DecidableEq, Repr

/-- The state of an entry (Table 1-2). -/
def OrderEntry.state (e : OrderEntry) : EntryState :=
  if e.pieces.any fun p => p.state == .unissued then .pending
  else if e.pieces.any fun p => p.state == .issued then .outstanding
  else .ready

/-- The entry is READY. -/
def OrderEntry.ready (e : OrderEntry) : Bool := e.state == .ready

/-- Whether any beat of the transfer is withheld (Table 1-1). -/
def OrderEntry.withheld (e : OrderEntry) : Bool := e.dispositions.contains .withhold

/-- The response code (R15). -/
def OrderEntry.code (e : OrderEntry) : RespCode :=
  if e.pieces.any fun p => p.code == .memerr then .memerr
  else if e.isWrite && e.withheld then .denied
  else .okay

/-- The value of beat `k` of a read (R3): its snapshot, or what memory answered. -/
def OrderEntry.beatValue (e : OrderEntry) (k : Nat) : Word :=
  match e.snapshot.getD k none with
  | some w => w
  | none =>
    match e.pieces.find? fun p => p.first ≤ k && k < p.first + p.count with
    | none => 0
    | some p => p.answer.getD (k - p.first) 0

/-- The response of an entry (R3). -/
def OrderEntry.response (e : OrderEntry) : Response :=
  ⟨e.id, e.code, if e.isWrite then [] else (List.range e.beatCount).map e.beatValue⟩

/-- The entry of a taken transfer (Table 1-1). -/
def newEntry (t : Transfer) (ds : List Disposition) (snap : List (Option Word)) (ns : List Notice) : OrderEntry where
  id := t.id
  isWrite := isWriteTransfer t
  start := t.start
  beatCount := t.beatCount
  dispositions := ds
  snapshot := snap
  pieces := piecesOf t ds
  notices := ns

/-! ### Settling (R10) -/

/-- A notice is delivered to its owner. -/
def State.deliver (s : State) (n : Notice) : State :=
  match n with
  | .plan serial => s.planNoticed serial
  | .fetch l i fetch => s.fetchNoticed l i fetch
  | .release r e => s.releaseNoticed r e

/-- The settled entries: those from the head on that are READY (R10). -/
def Path.settled (p : Path) : List OrderEntry := p.orderList.takeWhile OrderEntry.ready

/-- The path with the notices of its settled entries taken out. -/
def Path.clearSettled (p : Path) : Path :=
  { p with
    orderList := (p.settled.map fun e => { e with notices := [] }) ++ p.orderList.dropWhile OrderEntry.ready }

/-- The notices of the settled entries are delivered, in list order and in beat order (R10). -/
def State.settle (s : State) : State :=
  (s.path.settled.flatMap (·.notices)).foldl State.deliver (s.modPath Path.clearSettled)

/-! ### Taking (R1) -/

/-- The effects of a transfer at its taking, with its notices: a write's triggers, or a read's read-side actions. -/
def State.takeEffects (s : State) (t : Transfer) : State × List Notice :=
  match t.op with
  | .read _ => (s.readActions (s.refsOf t), [])
  | .write _ => s.writeEffects (s.touches t)

/-- A transfer is taken (R1): every decision and the snapshot are those of the state before it. -/
def State.taking (s : State) (t : Transfer) : State :=
  let ds := s.dispositions t
  let e := s.takeEffects t
  ((e.1.captureWithheld t ds).modPath fun p =>
    { p with orderList := p.orderList ++ [newEntry t ds (s.snapshotOf t) e.2] }).settle

/-- The order list holds fewer than 16 entries (R1). -/
def State.hasRoom (s : State) : Bool := s.path.orderList.length < 16

/-- The transfer on the port is taken if the list has room (R1). -/
def State.takeNext (s : State) : State :=
  match s.path.port with
  | [] => s
  | t :: ts => if s.hasRoom then ((s.modPath fun p => { p with port := ts }).taking t) else s

/-- At most `n` transfers on the port are taken, while the list has room. -/
def State.takeUpTo (n : Nat) (s : State) : State :=
  match n with
  | 0 => s
  | n + 1 => State.takeUpTo n s.takeNext

/-- A transfer is presented on the upstream port: it waits behind those presented before it (log 6), and while RESET_N is
asserted none is taken (R22). -/
def State.presentTransfer (s : State) (t : Transfer) : State :=
  let u := s.modPath fun p => { p with port := p.port ++ [t] }
  if s.inReset then u else u.takeNext.commit

/-! ### The downstream arbiter (R13, R21) -/

/-- The first UNISSUED piece of an entry. -/
def OrderEntry.waiting (e : OrderEntry) : Option Nat := e.pieces.findIdx? fun p => p.state == .unissued

/-- The waiting transfer of the passed-through stream (R13), as the number of its entry and of its piece. -/
def Path.waitingPiece (p : Path) : Option (Nat × Nat) :=
  match p.orderList.findIdx? fun e => e.waiting.isSome with
  | none => none
  | some i => ((p.orderList[i]?).bind OrderEntry.waiting).map fun k => (i, k)

/-- The stream granted now, if one is (R21). -/
def Path.granted (p : Path) : Option Stream :=
  match p.waitingPiece, p.queue with
  | none, [] => none
  | some _, [] => some .passed
  | none, _ :: _ => some .internal
  | some _, _ :: _ => if p.lastGrant = .passed then some .internal else some .passed

/-- A piece as it is issued (R14): its data has gone. -/
def Piece.issue (p : Piece) : Piece := { p with state := .issued, data := [] }

/-- The list with one piece of one entry changed. -/
def modPiece (es : List OrderEntry) (i k : Nat) (f : Piece → Piece) : List OrderEntry :=
  es.modify i fun e => { e with pieces := e.pieces.modify k f }

/-- What the port is given for a piece (R13). -/
def Path.pieceOut (p : Path) (i k : Nat) : Option DownTransfer :=
  match p.orderList[i]? with
  | none => none
  | some e =>
    (e.pieces[k]?).map fun x =>
      ⟨.passed, e.isWrite, e.start + BitVec.ofNat 40 (4 * x.first), x.count, x.data⟩

/-- A grant to the passed-through stream (R14, R21). -/
def Path.grantPiece (p : Path) : Path :=
  match p.waitingPiece with
  | none => p
  | some (i, k) =>
    { p with
      orderList := modPiece p.orderList i k Piece.issue
      lastGrant := .passed
      downstreamOut := p.pieceOut i k }

/-- A grant to the internal stream (R18, R21): the oldest request of the wait list moves into the queue. -/
def Path.grantInternal (p : Path) : Path :=
  match p.queue with
  | [] => p
  | r :: rs =>
    { p with
      queue := rs ++ p.waitList.take 1
      waitList := p.waitList.drop 1
      inFlight := p.inFlight ++ [r]
      lastGrant := .internal
      downstreamOut := some ⟨.internal, r.isWrite, r.start, r.beats, r.data⟩ }

/-- The downstream port accepts a transfer (R21). -/
def Path.grant (p : Path) : Path :=
  match p.granted with
  | none => p
  | some .passed => p.grantPiece
  | some .internal => p.grantInternal

/-! ### Answers and responses (R3, R14) -/

/-- A piece as its response leaves it (R14). -/
def Piece.answerWith (p : Piece) (isWrite : Bool) (code : DownCode) (data : List Word) : Piece :=
  { p with
    state := .answered
    code := if code = .okay then .okay else .memerr
    answer := if isWrite then [] else if code = .okay then data else List.replicate p.count 0 }

/-- A response answers a piece (R14): it is issued, and a read answered OKAY brings a word for each beat (log 27). -/
def Path.answers (p : Path) (i k : Nat) (code : DownCode) (words : Nat) : Bool :=
  match p.orderList[i]? with
  | none => false
  | some e => (e.pieces[k]?).any fun x => x.state == .issued && (e.isWrite || code != .okay || words == x.count)

/-- A piece is answered (R14). -/
def Path.answer (p : Path) (i k : Nat) (code : DownCode) (data : List Word) : Path :=
  { p with
    orderList := p.orderList.modify i fun e =>
      { e with pieces := e.pieces.modify k fun x => x.answerWith e.isWrite code data } }

/-- The head entry, if it is READY. -/
def Path.readyHead (p : Path) : Option OrderEntry := p.orderList.head?.filter OrderEntry.ready

/-- The head entry's response leaves (R3). -/
def Path.leave (p : Path) (e : OrderEntry) : Path :=
  { p with orderList := p.orderList.tail, upstreamOut := some e.response }

end Sys2Proof.Machine
end

