-- ==== Sys2Proof/Machine/PathCommands.lean ====
section
/-! DEFINITION. The memory path's commands: a transfer, a grant, an answer, a response. -/

namespace Sys2Proof.Machine

/-- UPSTREAM_TRANSFER_TAKEN (R1): any transfer the memory link can carry; another is refused (log 4). -/
def execUpstreamTransferTaken (t : Transfer) (s : State) : Host.Outcome State Fault Refusal :=
  if Transfer.wf t then .next (s.presentTransfer t) else .refused .illFormed

/-- DOWNSTREAM_GRANT (R21); with nothing waiting there is no grant. -/
def execDownstreamGrant (s : State) : Host.Outcome State Fault Refusal := .next (s.event fun t => t.modPath Path.grant)

/-- The answer of a piece, and what it settles (R10, R14). -/
def State.pieceAnswered (s : State) (entry piece : Nat) (code : DownCode) (data : List Word) : State :=
  if s.path.answers entry piece code data.length then
    (s.modPath fun p => p.answer entry piece code data).settle
  else s

/-- PIECE_ANSWERED (R14); a response that answers no issued piece is ignored (R22, log 2). -/
def execPieceAnswered (entry piece : Nat) (code : DownCode) (data : List Word) (s : State) :
    Host.Outcome State Fault Refusal :=
  .next (s.event fun t => t.pieceAnswered entry piece code data)

/-- The response of a READY head leaves, and a transfer waiting for room is taken (R1, R3). -/
def State.responseLeaves (s : State) : State :=
  match s.path.readyHead with
  | none => s
  | some e => (s.modPath fun p => p.leave e).takeNext

/-- UPSTREAM_RESPONSE_LEAVES (R3). -/
def execUpstreamResponseLeaves (s : State) : Host.Outcome State Fault Refusal := .next (s.event State.responseLeaves)

end Sys2Proof.Machine
end

