-- ==== Sys2Proof/Machine/Requests.lean ====
section
/-! DEFINITION. The commands that are upstream transfers of one purpose (log 5): each is the transfer that its chapter
names, presented and taken as any other. Under a plan that declares no such window there is no such transfer. -/

namespace Sys2Proof.Machine

/-- The transfer of a request, if the plan in force gives it a place. -/
def State.request (s : State) (t : Option Transfer) : State :=
  match t with
  | none => s
  | some t => s.presentTransfer t

/-- PLAN_SEQUENCE_TRIGGER (R27). -/
def execPlanSequenceTrigger (id : TransferId) (value : Word) (s : State) : Host.Outcome State Fault Refusal :=
  .next (s.presentTransfer (sequenceTransfer s.planSel id value))

/-- MODE_REQUEST_SETUP (R62, R63). -/
def execModeRequestSetup (l : LinkId) (id : TransferId) (s : State) : Host.Outcome State Fault Refusal :=
  .next (s.request (modeTransfer s.plan l .setup id))

/-- MODE_REQUEST_RUN (R62, R63). -/
def execModeRequestRun (l : LinkId) (id : TransferId) (s : State) : Host.Outcome State Fault Refusal :=
  .next (s.request (modeTransfer s.plan l .run id))

/-- MODE_REQUEST_LISTEN (R62, R63). -/
def execModeRequestListen (l : LinkId) (id : TransferId) (s : State) : Host.Outcome State Fault Refusal :=
  .next (s.request (modeTransfer s.plan l .listen id))

/-- MODE_REQUEST_MIRROR (R62 to R64). -/
def execModeRequestMirror (l : LinkId) (id : TransferId) (s : State) : Host.Outcome State Fault Refusal :=
  .next (s.request (modeTransfer s.plan l .mirror id))

/-- MODE_REQUEST_QUIET (R62, R63, R65). -/
def execModeRequestQuiet (l : LinkId) (id : TransferId) (s : State) : Host.Outcome State Fault Refusal :=
  .next (s.request (modeTransfer s.plan l .quiet id))

/-- SEND (R70). -/
def execSend (l : LinkId) (i : SlotId) (id : TransferId) (body : Option (Vector Word 5)) (s : State) :
    Host.Outcome State Fault Refusal :=
  .next (s.request (requestTransfer s.plan l i sendCode id body))

/-- ANSWER (R71). -/
def execAnswer (l : LinkId) (i : SlotId) (id : TransferId) (body : Option (Vector Word 5)) (s : State) :
    Host.Outcome State Fault Refusal :=
  .next (s.request (requestTransfer s.plan l i answerCode id body))

/-- ABORT (R72). -/
def execAbort (l : LinkId) (i : SlotId) (id : TransferId) (s : State) : Host.Outcome State Fault Refusal :=
  .next (s.request (requestTransfer s.plan l i abortCode id none))

/-- ABORT_ALL (R79). -/
def execAbortAll (l : LinkId) (id : TransferId) (s : State) : Host.Outcome State Fault Refusal :=
  .next (s.request (abortAllTransfer s.plan l id))

/-- RELEASE (R100). -/
def execRelease (r : RingId) (e : Fin 64) (id : TransferId) (s : State) : Host.Outcome State Fault Refusal :=
  .next (s.request (releaseTransfer s.plan r e.val id))

/-- LATENT_FETCH (R108): a read of the ACTIVE ECHO window. -/
def execLatentFetch (firstWord : Fin 256) (beats : Nat) (id : TransferId) (s : State) :
    Host.Outcome State Fault Refusal :=
  if beatCountOk beats then .next (s.request (readTransfer s.plan (.echo .active) firstWord.val beats id))
  else .refused .illFormed

/-- TAKE (R165, R167): a read of the ACTIVE LIVE window. -/
def execTake (firstWord : Fin 128) (beats : Nat) (id : TransferId) (s : State) :
    Host.Outcome State Fault Refusal :=
  if beatCountOk beats then .next (s.request (readTransfer s.plan (.live .active) firstWord.val beats id))
  else .refused .illFormed

/-- The block of a zone command with a code (R124). -/
def State.zoneCommand (s : State) (c : ChanId) (k : CmdCode) (id : TransferId) (f : CommandFields) : State :=
  s.request (commandTransfer s.plan c k.code id f)

/-- ENABLE (R128). -/
def execEnable (c : ChanId) (id : TransferId) (f : CommandFields) (s : State) : Host.Outcome State Fault Refusal :=
  .next (s.zoneCommand c .enable id f)

/-- DISABLE (R132). -/
def execDisable (c : ChanId) (id : TransferId) (f : CommandFields) (s : State) : Host.Outcome State Fault Refusal :=
  .next (s.zoneCommand c .disable id f)

/-- MOVE_OUT (R129, R130). -/
def execMoveOut (c : ChanId) (id : TransferId) (f : CommandFields) (s : State) : Host.Outcome State Fault Refusal :=
  .next (s.zoneCommand c .moveOut id f)

/-- MOVE_IN (R129, R130). -/
def execMoveIn (c : ChanId) (id : TransferId) (f : CommandFields) (s : State) : Host.Outcome State Fault Refusal :=
  .next (s.zoneCommand c .moveIn id f)

/-- GOTO (R129 to R131). -/
def execGoto (c : ChanId) (id : TransferId) (f : CommandFields) (s : State) : Host.Outcome State Fault Refusal :=
  .next (s.zoneCommand c .goto id f)

/-- STOP (R132). -/
def execStop (c : ChanId) (id : TransferId) (f : CommandFields) (s : State) : Host.Outcome State Fault Refusal :=
  .next (s.zoneCommand c .stop id f)

/-- CLEAR_TRIP (R149). -/
def execClearTrip (c : ChanId) (id : TransferId) (f : CommandFields) (s : State) :
    Host.Outcome State Fault Refusal :=
  .next (s.zoneCommand c .clearTrip id f)

/-- WATCH_ON (R156). -/
def execWatchOn (c : ChanId) (id : TransferId) (f : CommandFields) (s : State) : Host.Outcome State Fault Refusal :=
  .next (s.zoneCommand c .watchOn id f)

/-- WATCH_OFF (R156). -/
def execWatchOff (c : ChanId) (id : TransferId) (f : CommandFields) (s : State) : Host.Outcome State Fault Refusal :=
  .next (s.zoneCommand c .watchOff id f)

end Sys2Proof.Machine
end

