-- ==== Sys2Proof/Machine/ResetTime.lean ====
section
/-! DEFINITION. The start reset and the stamp: START_RESET, RESET_END, STAMP_TICK. -/

namespace Sys2Proof.Machine

/-- Every block at its start-reset state (R22, R23, R45, R67, R86, R104, R119, R139, R158, R170, R177), with RESET_N
asserted and the straps sampled. The transfers on the upstream port stay there (R22), and so do the commands waiting and
the count of free values used, which are no state of the part. -/
def State.startReset (s : State) (planSel : BitVec 4) : State :=
  { State.reset with
    pending := s.pending
    inReset := true
    planSel := planSel
    path := { Path.reset with port := s.path.port }
    freeCount := s.freeCount }

/-- The end switch levels of a channel as read when the reset ends (R139). -/
def Channel.readEnds (ch : Channel) (endOut endIn : Bool) : Channel := { ch with endOut := endOut, endIn := endIn }

/-- The start reset ends (R22, R139, R158, R159): the input levels are read, the stamp starts from 0, and transfers
waiting on the port are taken. -/
def State.resetEnds (s : State) (i : InputLevels) : State :=
  (State.takeUpTo s.path.port.length
    { s with
      inReset := false
      chans := updateAll s.chans fun c ch => ch.readEnds (look i.endOut c) (look i.endIn c)
      esl := i.esl
      status := { s.status with stamp := 0 } }).commit

/-- START_RESET (R22). -/
def execStartReset (planSel : BitVec 4) (s : State) : Host.Outcome State Fault Refusal := .next (s.startReset planSel)

/-- RESET_END (R159): the end of a reset that runs. -/
def execResetEnd (i : InputLevels) (s : State) : Host.Outcome State Fault Refusal :=
  .next (if s.inReset then s.resetEnds i else s)

/-- STAMP_TICK (R133, R159). -/
def execStampTick (s : State) : Host.Outcome State Fault Refusal := .next (s.event State.tick)

end Sys2Proof.Machine
end

