-- ==== Sys2Proof/Machine/TimerCommands.lean ====
section
/-! DEFINITION. The expiries of the Poll Unit and of the Repeater, the ends of frames, and the attention line's own times.
An expiry whose stamp has not been reached is out of place and changes nothing (log 2, log 15). -/

namespace Sys2Proof.Machine

/-- AUTO_EXPIRY (R110). -/
def execAutoExpiry (p : PollId) (s : State) : Host.Outcome State Fault Refusal :=
  .next (if due s.now (s.pollEntry p).autoTimer then s.event fun t => t.autoExpires p else s)

/-- REPLY_TIMEOUT (R113). -/
def execReplyTimeout (p : PollId) (s : State) : Host.Outcome State Fault Refusal :=
  .next (if due s.now (s.pollEntry p).replyTimer then s.event fun t => t.replyExpires p else s)

/-- STALENESS_EXPIRY (R115). -/
def execStalenessExpiry (p : PollId) (s : State) : Host.Outcome State Fault Refusal :=
  .next (if due s.now (s.pollEntry p).staleTimer then s.event fun t => t.staleExpires p else s)

/-- ATTENTION_PULSE_END (R169). -/
def execAttentionPulseEnd (s : State) : Host.Outcome State Fault Refusal :=
  .next (s.event fun t => t.modStatus StatusUnit.pulseEnds)

/-- ATTENTION_GAP_END (R169). -/
def execAttentionGapEnd (s : State) : Host.Outcome State Fault Refusal :=
  .next (s.event fun t => t.modStatus StatusUnit.gapEnds)

/-- REPEATER_PERIOD_EXPIRY (R172). -/
def execRepeaterPeriodExpiry (s : State) : Host.Outcome State Fault Refusal :=
  .next (if due s.now s.repeater.timer then s.event State.periodExpires else s)

/-- The frame in hand is being sent. -/
def Repeater.isSending (r : Repeater) : Bool :=
  match r.frame with
  | .sending _ => true
  | .none | .awaiting _ _ | .held _ _ => false

/-- FRAME_SENT (R172). -/
def execFrameSent (s : State) : Host.Outcome State Fault Refusal :=
  .next (if s.repeater.isSending then s.event State.frameEnds else s)

/-- FINISHING_FRAME_SENT (R176). -/
def execFinishingFrameSent (s : State) : Host.Outcome State Fault Refusal :=
  .next (if s.repeater.finishing.isSome then s.event State.finishingEnds else s)

end Sys2Proof.Machine
end

