-- ==== Sys2Proof/Machine/Dispatch.lean ====
section
/-! DEFINITION. One meaning for each command. -/

namespace Sys2Proof.Machine

/-- The effect of a command on everything but the queue of waiting commands. -/
def exec (i : Instr) (s : State) : Host.Outcome State Fault Refusal :=
  match i with
  | .startReset planSel => Sys2Proof.Machine.execStartReset planSel s
  | .upstreamTransferTaken t => Sys2Proof.Machine.execUpstreamTransferTaken t s
  | .downstreamGrant => Sys2Proof.Machine.execDownstreamGrant s
  | .pieceAnswered entry piece code data => Sys2Proof.Machine.execPieceAnswered entry piece code data s
  | .planSequenceTrigger id value => Sys2Proof.Machine.execPlanSequenceTrigger id value s
  | .planReadComplete nth code data => Sys2Proof.Machine.execPlanReadComplete nth code data s
  | .modeRequestSetup link id => Sys2Proof.Machine.execModeRequestSetup link id s
  | .modeRequestRun link id => Sys2Proof.Machine.execModeRequestRun link id s
  | .modeRequestListen link id => Sys2Proof.Machine.execModeRequestListen link id s
  | .modeRequestMirror link id => Sys2Proof.Machine.execModeRequestMirror link id s
  | .modeRequestQuiet link id => Sys2Proof.Machine.execModeRequestQuiet link id s
  | .quietGap link levels => Sys2Proof.Machine.execQuietGap link levels s
  | .arbitrationLost link levels => Sys2Proof.Machine.execArbitrationLost link levels s
  | .messageSent link levels => Sys2Proof.Machine.execMessageSent link levels s
  | .messageReceived link levels => Sys2Proof.Machine.execMessageReceived link levels s
  | .shapeError link levels => Sys2Proof.Machine.execShapeError link levels s
  | .checkError link levels => Sys2Proof.Machine.execCheckError link levels s
  | .noConfirmError link levels => Sys2Proof.Machine.execNoConfirmError link levels s
  | .clashError link levels => Sys2Proof.Machine.execClashError link levels s
  | .stuck link levels => Sys2Proof.Machine.execStuck link levels s
  | .errorMarkEnd link levels => Sys2Proof.Machine.execErrorMarkEnd link levels s
  | .recovery link levels => Sys2Proof.Machine.execRecovery link levels s
  | .mirrorGapEnd link => Sys2Proof.Machine.execMirrorGapEnd link s
  | .mirroredMessageEnd link => Sys2Proof.Machine.execMirroredMessageEnd link s
  | .quietWake link levels => Sys2Proof.Machine.execQuietWake link levels s
  | .send link slot id body => Sys2Proof.Machine.execSend link slot id body s
  | .answer link slot id body => Sys2Proof.Machine.execAnswer link slot id body s
  | .abort link slot id => Sys2Proof.Machine.execAbort link slot id s
  | .abortAll link id => Sys2Proof.Machine.execAbortAll link id s
  | .slotFetchComplete nth code data => Sys2Proof.Machine.execSlotFetchComplete nth code data s
  | .ringBodyWriteComplete nth code => Sys2Proof.Machine.execRingBodyWriteComplete nth code s
  | .ringMarkerWriteComplete nth code => Sys2Proof.Machine.execRingMarkerWriteComplete nth code s
  | .release ring entry id => Sys2Proof.Machine.execRelease ring entry id s
  | .latentFetch firstWord beats id => Sys2Proof.Machine.execLatentFetch firstWord beats id s
  | .autoExpiry entry => Sys2Proof.Machine.execAutoExpiry entry s
  | .replyTimeout entry => Sys2Proof.Machine.execReplyTimeout entry s
  | .stalenessExpiry entry => Sys2Proof.Machine.execStalenessExpiry entry s
  | .enable chan id f => Sys2Proof.Machine.execEnable chan id f s
  | .disable chan id f => Sys2Proof.Machine.execDisable chan id f s
  | .moveOut chan id f => Sys2Proof.Machine.execMoveOut chan id f s
  | .moveIn chan id f => Sys2Proof.Machine.execMoveIn chan id f s
  | .goto chan id f => Sys2Proof.Machine.execGoto chan id f s
  | .stop chan id f => Sys2Proof.Machine.execStop chan id f s
  | .clearTrip chan id f => Sys2Proof.Machine.execClearTrip chan id f s
  | .watchOn chan id f => Sys2Proof.Machine.execWatchOn chan id f s
  | .watchOff chan id f => Sys2Proof.Machine.execWatchOff chan id f s
  | .stampTick => Sys2Proof.Machine.execStampTick s
  | .rampEnd chan => Sys2Proof.Machine.execRampEnd chan s
  | .currentConversion chan value => Sys2Proof.Machine.execCurrentConversion chan value s
  | .overcurrentEvent chan => Sys2Proof.Machine.execOvercurrentEvent chan s
  | .pulse chan => Sys2Proof.Machine.execPulse chan s
  | .endSwitchChange chan which active => Sys2Proof.Machine.execEndSwitchChange chan which active s
  | .dwellExpiry chan => Sys2Proof.Machine.execDwellExpiry chan s
  | .stallExpiry chan => Sys2Proof.Machine.execStallExpiry chan s
  | .runtimeExpiry chan => Sys2Proof.Machine.execRuntimeExpiry chan s
  | .eslAssertion => Sys2Proof.Machine.execEslAssertion s
  | .eslRelease => Sys2Proof.Machine.execEslRelease s
  | .holdExpiry chan => Sys2Proof.Machine.execHoldExpiry chan s
  | .take firstWord beats id => Sys2Proof.Machine.execTake firstWord beats id s
  | .attentionPulseEnd => Sys2Proof.Machine.execAttentionPulseEnd s
  | .attentionGapEnd => Sys2Proof.Machine.execAttentionGapEnd s
  | .repeaterPeriodExpiry => Sys2Proof.Machine.execRepeaterPeriodExpiry s
  | .repeaterReadComplete nth code data => Sys2Proof.Machine.execRepeaterReadComplete nth code data s
  | .frameSent => Sys2Proof.Machine.execFrameSent s
  | .finishingFrameSent => Sys2Proof.Machine.execFinishingFrameSent s
  | .upstreamResponseLeaves => Sys2Proof.Machine.execUpstreamResponseLeaves s
  | .startMarkRead link levels => Sys2Proof.Machine.execStartMarkRead link levels s
  | .resetEnd inputs => Sys2Proof.Machine.execResetEnd inputs s

end Sys2Proof.Machine
end

