-- ==== Sys2Proof/Safety.lean ====
section
/-! DEFINITION. What counts as a sound state and a state between events, in the terms claims use. -/

namespace Sys2Proof.Machine

/-! ### The memory path (R1, R10, R18) -/

/-- The bounds of the memory path: at most 16 order entries (R1), at most 8 queued requests with a wait list only behind a
full queue (R18), nothing half submitted, and no notice of a settled entry still to be delivered (R10). -/
def Path.sound (p : Path) : Bool :=
  p.orderList.length ≤ 16 && p.queue.length ≤ 8 && (p.waitList == [] || p.queue.length == 8) && p.staged == []
    && p.settled.all fun e => e.notices == []

/-- A transfer presented now is taken at once (R1): RESET_N is released, the port is free and the list has room. -/
def State.takesNow (s : State) : Bool :=
  !s.inReset && s.path.port == [] && s.hasRoom && s.path.staged == [] && s.path.settled.all fun e => e.notices == []

/-- An address is this word of the part's regions (R4). -/
def State.sees (s : State) (a : Addr) (r : WordRef) : Bool := classify s.planSel s.plan a == r

/-- The words that a slot request addresses: its request word, or the whole record. -/
def slotRefs (l : LinkId) (i : SlotId) (body : Option (Vector Word 5)) : List WordRef :=
  match body with
  | none => [.request l i]
  | some _ =>
    [.request l i, .slotState l i 1, .slotState l i 2, .host l i 3, .host l i 4, .host l i 5, .host l i 6,
      .host l i 7]

/-- The four words of a channel's command block. -/
def blockRefs (c : ChanId) : List WordRef := [.command c 0, .command c 1, .command c 2, .command c 3]

/-- A zone command to channel `c` is taken now: the plan has a DRIVE window, and the block's four words are where it says. -/
def State.takesBlock (s : State) (c : ChanId) (k : CmdCode) (id : TransferId) (f : CommandFields) : Bool :=
  s.takesNow && (commandTransfer s.plan c k.code id f).any fun t => s.refsOf t == blockRefs c

/-- A slot request is taken now. -/
def State.takesRequest (s : State) (l : LinkId) (i : SlotId) (code : Word) (id : TransferId)
    (body : Option (Vector Word 5)) : Bool :=
  s.takesNow && (requestTransfer s.plan l i code id body).any fun t => s.refsOf t == slotRefs l i body

/-- The order entry of a one-beat write whose trigger was accepted. -/
def triggerEntry (id : TransferId) (a : Addr) (v : Word) (ns : List Notice) : OrderEntry where
  id := id
  isWrite := true
  start := a
  beatCount := 1
  dispositions := [.passTrigger]
  snapshot := []
  pieces := [⟨0, 1, [fullBeat v], .unissued, .okay, []⟩]
  notices := ns

/-- The state with one more entry in the order list. -/
def State.withEntry (s : State) (e : OrderEntry) : State :=
  s.modPath fun p => { p with orderList := p.orderList ++ [e] }

/-- The mode request of each mode (R62). -/
def modeCommand (m : Mode) (l : LinkId) (id : TransferId) : Instr :=
  match m with
  | .setup => .modeRequestSetup l id
  | .run => .modeRequestRun l id
  | .listen => .modeRequestListen l id
  | .mirror => .modeRequestMirror l id
  | .quiet => .modeRequestQuiet l id

/-- The drive command of each code (Table 7-7). -/
def blockInstr (k : CmdCode) (c : ChanId) (id : TransferId) (f : CommandFields) : Instr :=
  match k with
  | .enable => .enable c id f
  | .disable => .disable c id f
  | .moveOut => .moveOut c id f
  | .moveIn => .moveIn c id f
  | .goto => .goto c id f
  | .stop => .stop c id f
  | .clearTrip => .clearTrip c id f
  | .watchOn => .watchOn c id f
  | .watchOff => .watchOff c id f

/-- The command that a zone command's fields give (Table 11-14). -/
def zoneFields (k : CmdCode) (f : CommandFields) : DriveCommand :=
  ⟨k.code, f.speed.toNat, f.target.toInt, f.runLimit.toNat⟩

/-- The order entry of a write all of whose beats pass (R2, R13): one piece of all its beats, not yet issued. -/
def passedEntry (t : Transfer) (ds : List Disposition) (ns : List Notice) : OrderEntry where
  id := t.id
  isWrite := true
  start := t.start
  beatCount := t.beatCount
  dispositions := ds
  snapshot := []
  pieces := [⟨0, t.beatCount, writeBeats t, .unissued, .okay, []⟩]
  notices := ns

/-- The order entry of a write all of whose beats are withheld (R2, R13, R16): no piece and no notice. -/
def withheldEntry (t : Transfer) : OrderEntry where
  id := t.id
  isWrite := true
  start := t.start
  beatCount := t.beatCount
  dispositions := List.replicate t.beatCount .withhold
  snapshot := []
  pieces := []
  notices := []

/-- The order entry of an accepted command block (R124): four beats that pass as one trigger. -/
def blockEntry (t : Transfer) : OrderEntry := passedEntry t (List.replicate 4 .passTrigger) []

/-- The order entry of an accepted slot request: the request word's beat, and where a body is written with it the two beats
with no byte enabled and the five of the host fields. -/
def requestEntry (t : Transfer) (body : Option (Vector Word 5)) (ns : List Notice) : OrderEntry :=
  passedEntry t (.passTrigger :: if body.isSome then List.replicate 7 .pass else []) ns

/-! ### Polls, trips and ranges -/

/-- The Send Controller of a link whose poll sender has taken an entry and enqueued its ASK (R84, R75). -/
def State.withAsk (s : State) (l : LinkId) (p : PollId) : SendCtl :=
  let c := s.sender l
  let n := c.acceptCount + 1
  let priority := (s.linkSettings l).pollPriority
  { c with
    acceptCount := n
    pollAsk := some ⟨p, ((s.pollSettings p).map (·.tag)).getD 0, priority, n, 0, false, false, false⟩
    queue := insertItem n ⟨.poll, priority, n⟩ c.queue }

/-- From `s` to `t` the entries `new` have joined the poll request queue of a link in order (R109). A poll sender that held an
ASK keeps it; one that held none has taken the head and enqueued its ASK (R84), which stands in the send queue where the
link cannot take it now, and is on the wire where the link can and nothing else is queued (R51, R64). -/
def State.offersPolls (s t : State) (l : LinkId) (new : List PollId) : Prop :=
  (new = [] → t.pollQueue l = s.pollQueue l ∧ t.sender l = s.sender l ∧ t.link l = s.link l)
  ∧ (new ≠ [] → (s.sender l).pollAsk.isSome = true →
      t.pollQueue l = s.pollQueue l ++ new
        ∧ (t.sender l).pollAsk.map (·.entry) = (s.sender l).pollAsk.map (·.entry)
        ∧ ((s.link l).canTake = false → t.sender l = s.sender l ∧ t.link l = s.link l))
  ∧ (new ≠ [] → (s.sender l).pollAsk = none → ∀ p ps, s.pollQueue l ++ new = p :: ps →
      let tag := ((s.pollSettings p).map (·.tag)).getD 0
      let ask : Message := ⟨tag, .ask, 16, []⟩
      t.pollQueue l = ps
        ∧ (t.sender l).pollAsk.map (·.entry) = some p
        ∧ ((s.link l).canTake = false → t.sender l = s.withAsk l p ∧ t.link l = s.link l)
        ∧ ((s.link l).canTake = true → (s.sender l).queue = [] →
            (t.link l).item = some ⟨.poll, ask, if (s.link l).mode = .mirror then [] else ask.levels, true⟩
              ∧ t.sender l = { s.withAsk l p with
                  queue := []
                  pollAsk := (s.withAsk l p).pollAsk.map fun a => { a with onWire := true } }))

/-- The trip record of Table 8-2 for a channel as it stands. -/
def State.tripOf (s : State) (c : ChanId) (cause : TripCause) : TripRecord :=
  let ch := s.chan c
  let inMotion (dir : Option Dir) : TripRecord :=
    ⟨cause, dir, ch.source, s.status.stamp, ch.position, (s.prot c).peak, 0⟩
  match ch.state with
  | .driveOut => inMotion (some .outward)
  | .driveIn => inMotion (some .inward)
  | .stopping => inMotion ch.lastDir
  | .ready | .safe | .tripped => ⟨cause, none, .none, s.status.stamp, ch.position, ch.current, 0⟩

/-- The state right after a channel has tripped, before its alarm request and before the guards are judged (R145, steps 1
to 4). -/
def State.trippedBy (s : State) (c : ChanId) (cause : TripCause) : State :=
  { s with
    chans := update s.chans c fun ch =>
      { ch with state := .tripped, motion := none, duty := 0, dwellEnd := none, stopReason := .trip }
    prots := update s.prots c fun k =>
      { k with
        trip := some (s.tripOf c cause)
        onset := none, armed := true, stallExpiry := none, runExpiry := none, holdExpiry := none }
    status := s.status.raise s.plan.attentionMask s.plan.lineMode .trip }

/-- The internal reads of a memory range's covering words (R173): one of up to 16 beats, or one of 16 and one of the rest. -/
def rangeReads (g : Nat) (start : Addr) (len : Nat) : List Request :=
  let n := (start.toNat % 4 + len + 3) / 4
  let a : Addr := start - BitVec.ofNat 40 (start.toNat % 4)
  if n ≤ 16 then [⟨.repeaterRead g 0, false, a, n, []⟩]
  else [⟨.repeaterRead g 0, false, a, 16, []⟩, ⟨.repeaterRead g 1, false, a + 64, n - 16, []⟩]

/-! ### What a command leaves alone -/

/-- The drive channels, their protection, the guards and the emergency stop line are as they were. -/
def sameDrive (s t : State) : Prop := t.chans = s.chans ∧ t.prots = s.prots ∧ t.guards = s.guards ∧ t.esl = s.esl

/-- The Receive Routers, the rings and the Repeater are as they were. -/
def sameReceive (s t : State) : Prop :=
  t.routers = s.routers ∧ t.ringWriter = s.ringWriter ∧ t.repeater = s.repeater

/-- The Plan Loader, the straps and the reset are as they were. -/
def samePlan (s t : State) : Prop := t.loader = s.loader ∧ t.planSel = s.planSel ∧ t.inReset = s.inReset

/-- The links and their Send Controllers are as they were. -/
def sameLinks (s t : State) : Prop := t.links = s.links ∧ t.senders = s.senders

/-- Every link but `l`, with its Send Controller and its poll request queue, is as it was. -/
def otherLinksSame (s t : State) (l : LinkId) : Prop :=
  ∀ m, m ≠ l → t.link m = s.link m ∧ t.sender m = s.sender m ∧ t.pollQueue m = s.pollQueue m

/-- The Status Unit is as it was but for causes raised and the pulses they bring; no cause is cleared. -/
def statusOnlyRaised (s t : State) : Prop :=
  t.status = { s.status with causes := t.status.causes, pulse := t.status.pulse, pulsesOwed := t.status.pulsesOwed }
    ∧ s.status.causes &&& t.status.causes = s.status.causes

/-- Only link `l` and what hangs on it has changed: its Send Controller, its poll requests, poll entries, causes. -/
def onlyLink (s t : State) (l : LinkId) : Prop :=
  sameDrive s t ∧ sameReceive s t ∧ samePlan s t ∧ otherLinksSame s t l ∧ statusOnlyRaised s t ∧ t.path = s.path

/-! ### The line -/

/-- The levels bring about an event at the last of them. -/
def State.brings (s : State) (l : LinkId) (levels : List Level) (e : WireEvent) : Bool :=
  ((s.link l).advance levels).map (·.2) == some e

/-- The link as the levels leave it. -/
def State.after (s : State) (l : LinkId) (levels : List Level) : LinkCtl :=
  (((s.link l).advance levels).map (·.1)).getD (s.link l)

/-- RESET_N is released and no request is half submitted: what every step leaves. -/
def State.running (s : State) : Bool := !s.inReset && s.path.staged == []

/-- The cause is set (R166). -/
def State.caused (s : State) (c : Cause) : Bool := s.hasCause c

/-! ### The drive channels (R120, R146, R148, R151) -/

/-- A channel record and its protection record agree with the channel's state: a motion in the driven direction exactly while
it moves (R123), no duty otherwise (R120), a dwell exactly in STOPPING (R137), measurements only in motion (R140), and a trip
record exactly in TRIPPED (R146). -/
def Channel.sound (ch : Channel) (k : Protection) : Bool :=
  ch.motion.map (·.dir) == ch.state.driven && (ch.state.moving || ch.duty == 0)
    && ch.dwellEnd.isSome == (ch.state == .stopping)
    && (ch.state.moving || (k.stallExpiry.isNone && k.runExpiry.isNone && k.holdExpiry.isNone))
    && k.trip.isSome == (ch.state == .tripped)

/-- A channel may be in its state under the emergency stop line (R148) and the reset (R139). -/
def ChanState.allowed (st : ChanState) (esl inReset : Bool) : Bool :=
  (!esl || st == .safe || st == .tripped) && (!inReset || st == .safe)

/-- Every channel is sound, is in a state the emergency stop line allows, and moves only with every guard of its direction
met (R146, R148, R151); the guard results are those of the conditions as they stand (R150), and while RESET_N is asserted
the plan is the empty one (R45). -/
def State.driveSound (s : State) : Bool :=
  ((List.finRange 3).all fun c =>
    (s.chan c).sound (s.prot c) && (s.chan c).state.allowed s.esl s.inReset && !s.unguarded c)
    && s.guards == s.guardResults && (!s.inReset || s.plan == Plan.empty)

/-! ### The rings (R94 to R96) -/

/-- The entry `k` places from the oldest pending index on, in ring order (R94). -/
def Ring.place (g : Ring) (k : Nat) : Nat := (g.oldest + k) % g.length

/-- A ring's counts are those of its entries, the used entries are exactly those from the oldest pending index up to the
head, and the released ones, in rising order, are PENDING and not at the oldest pending index (R94). -/
def Ring.sound (g : Ring) : Bool :=
  g.conds.length == g.length && g.pending == g.conds.count .pending && g.reserved == g.conds.count .reserved
    && (g.oldest == 0 || decide (g.oldest < g.length)) && g.head == g.place (g.pending + g.reserved)
    && ((List.range g.length).all fun k => (g.cond (g.place k) == .free) == decide (g.pending + g.reserved ≤ k))
    && (g.released.all fun i => i != g.oldest && g.cond i == .pending) && decide (g.released.Pairwise (· < ·))

/-- The entries of a ring that a message in a handoff queue or in writing holds (R95, R96). -/
def State.claims (s : State) (r : RingId) : List Nat :=
  ((s.ringWriter.writing.toList.map (·.handoff) ++ (s.router 0).handoff ++ (s.router 1).handoff).filter
    fun h => h.ring == r).map (·.entry)

/-- Every ring is sound, each of its reserved entries is held by exactly one message on its way into it, and a handoff queue
holds messages of its own link only (R94 to R96). -/
def State.ringsSound (s : State) : Bool :=
  ((List.finRange 4).all fun r =>
    (s.ring r).sound && decide (s.claims r).Nodup && (s.claims r).length == (s.ring r).reserved
      && (s.claims r).all fun i => (s.ring r).cond i == .reserved)
    && (List.finRange 2).all fun l => (s.router l).handoff.all fun h => h.link == l

end Sys2Proof.Machine
end

