-- ==== Sys2Proof/Certificates/Slice0/Obligations.lean ====
section
/-! DEFINITION. What the model claims, each for the provers. `∃ t, exec c s = .next t ∧ …` says that the command completes, what
it changes and what it leaves; a record equality leaves everything it does not name. -/

open Sys2Proof Sys2Proof.Machine

/-! ### Steps -/

/-- A step runs the command at the front of the queue on the state with the queue's rest. -/
def Obligations.StepTakesFront : Prop :=
  ∀ (c : Instr) (s : State), step { s with pending := c :: s.pending } = exec c s

/-- A well-formed command completes in every state and leaves the queue of waiting commands as it was; any other is refused by
name (log 4). The queue is the model's own, no state of the spec (log 12), and that START_RESET leaves it is the model's
choice (log 6). -/
def Obligations.WellFormedCommandCompletes : Prop :=
  ∀ (c : Instr) (s : State),
    (c.wellFormed = true → ∃ t, exec c s = .next t ∧ t.pending = s.pending)
    ∧ (c.wellFormed = false → exec c s = .refused .illFormed)

/-! ### Reset and stamp -/

/-- START_RESET: everything at its reset value with RESET_N asserted, the values that no rule gives among them (the model's
choice, log 8: current 0, acceptance number 0, source position 0, the serial counts 0, and the empty plan's unused-ring
settings, repeater rate and sources); the queue, the upstream port and the count of free values stay (the model's choice,
log 6). RESET_END: the stamp starts from 0, the inputs are read, and the transfers on
the port are taken while the order list has room; with none on the port nothing else changes. Outside a reset it is
out of place (log 2). STAMP_TICK: the stamp rises by 1, and the duty of a channel with a motion is the integer part of
speed times the time since the start stamp over the ramp before the ramp end, and the speed from it on; nothing else
changes. -/
def Obligations.ResetAndTick : Prop :=
  (∀ (planSel : BitVec 4) (s : State),
      exec (.startReset planSel) s = .next
        { State.reset with
          pending := s.pending
          inReset := true
          planSel := planSel
          path := { Path.reset with port := s.path.port }
          freeCount := s.freeCount })
  ∧ (∀ (i : InputLevels) (s : State),
        (s.inReset = true → s.path = { Path.reset with port := s.path.port } →
          ∃ t, exec (.resetEnd i) s = .next t ∧ t.inReset = false ∧ t.status.stamp = 0
            ∧ t.path.port = s.path.port.drop 16
            ∧ t.path.orderList.map (·.id) = (s.path.port.take 16).map (·.id)
            ∧ (s.path.port = [] → t =
                { s with
                  inReset := false
                  chans := updateAll s.chans fun c ch => { ch with endOut := look i.endOut c, endIn := look i.endIn c }
                  esl := i.esl
                  status := { s.status with stamp := 0 } }))
        ∧ (s.inReset = false → exec (.resetEnd i) s = .next s))
  ∧ (∀ s : State, s.running = true → ∃ t, exec .stampTick s = .next t
        ∧ t = { s with status := { s.status with stamp := s.status.stamp + 1 }, chans := t.chans }
        ∧ ∀ c : ChanId,
          ((s.chan c).motion = none → t.chan c = s.chan c)
          ∧ ∀ m, (s.chan c).motion = some m →
              let ran := (s.status.stamp + 1 - m.startStamp).toNat
              let ramp := (m.rampEnd - m.startStamp).toNat
              t.chan c = { s.chan c with duty := if ran < ramp then m.speed * ran / ramp else m.speed })

/-! ### The memory path -/

/-- A transfer to plain words, presented with the port free and room in the order list, is taken at once: one entry more,
in one piece that is all its beats, and nothing else. A transfer waits on the upstream port while the order list is
full, and while RESET_N is asserted; that one presented behind others waits after them, in the order presented, is the
model's choice (log 6). -/
def Obligations.TransferTakenOrWaits : Prop :=
  (∀ (t : Transfer) (s : State), t.wf = true → s.takesNow = true → (∀ r ∈ s.refsOf t, r.wordClass = .plain) →
      exec (.upstreamTransferTaken t) s = .next (s.withEntry
        { id := t.id
          isWrite := isWriteTransfer t
          start := t.start
          beatCount := t.beatCount
          dispositions := List.replicate t.beatCount .pass
          snapshot := if isWriteTransfer t then [] else List.replicate t.beatCount none
          pieces := [⟨0, t.beatCount, writeBeats t, .unissued, .okay, []⟩]
          notices := [] }))
  ∧ (∀ (t : Transfer) (s : State), t.wf = true →
        (s.inReset = true ∨ (s.path.orderList.length = 16 ∧ s.path.staged = [])) →
        exec (.upstreamTransferTaken t) s = .next { s with path := { s.path with port := s.path.port ++ [t] } })

/-- A write with a withheld beat, presented with the port free and room in the order list: the address of the lowest-numbered
withheld beat is captured, WRITES WITHHELD counts it, cause WITHHELD is raised, and the code of its entry as taken is DENIED
(a piece of it that is answered MEMERR later makes its response MEMERR, R15). -/
def Obligations.WithheldWriteCaptured : Prop :=
  ∀ (t : Transfer) (s : State) (k : Nat), t.wf = true → isWriteTransfer t = true → s.takesNow = true →
    (s.dispositions t).findIdx? (· == .withhold) = some k →
    ∃ u, exec (.upstreamTransferTaken t) s = .next u
      ∧ u.status.lastWithheld = t.start + BitVec.ofNat 40 (4 * k)
      ∧ u.status.withheld = satInc s.status.withheld
      ∧ u.caused .withheld = true
      ∧ ∃ e, u.path.orderList = s.path.orderList ++ [e] ∧ e.id = t.id ∧ e.withheld = true ∧ e.code = .denied

/-- DOWNSTREAM_GRANT: the stream that waits alone, or of two the one not granted last. The internal stream's oldest request goes
in flight and the oldest of the wait list takes its place; the passed-through stream's first unissued piece is issued and its
data goes. With neither waiting nothing changes. -/
def Obligations.GrantAlternates : Prop :=
  ∀ s : State, s.running = true →
    (∀ r rs, s.path.queue = r :: rs → (s.path.waitingPiece = none ∨ s.path.lastGrant = .passed) →
      exec .downstreamGrant s = .next { s with path :=
        { s.path with
          queue := rs ++ s.path.waitList.take 1
          waitList := s.path.waitList.drop 1
          inFlight := s.path.inFlight ++ [r]
          lastGrant := .internal
          downstreamOut := some ⟨.internal, r.isWrite, r.start, r.beats, r.data⟩ } })
    ∧ (∀ i k e p, s.path.waitingPiece = some (i, k) → s.path.orderList[i]? = some e → e.pieces[k]? = some p →
        (s.path.queue = [] ∨ s.path.lastGrant = .internal) →
      exec .downstreamGrant s = .next { s with path :=
        { s.path with
          orderList := s.path.orderList.set i
            { e with pieces := e.pieces.set k { p with state := .issued, data := [] } }
          lastGrant := .passed
          downstreamOut := some ⟨.passed, e.isWrite, e.start + BitVec.ofNat 40 (4 * p.first), p.count, p.data⟩ } })
    ∧ (s.path.waitingPiece = none → s.path.queue = [] → exec .downstreamGrant s = .next s)

/-- PIECE_ANSWERED: the issued piece is answered, with MEMERR for any code but OKAY; a read's words are those of the answer, and
zeros under MEMERR. The entries that are settled now lose their notices, and the effects are those of delivering just
these notices, in list order and in beat order. The order list is otherwise as it was; with no notice outstanding nothing
else changes at all. -/
def Obligations.PieceAnswerRecorded : Prop :=
  ∀ (s : State) (i k : Nat) (code : DownCode) (data : List Word) (e : OrderEntry) (p : Piece), s.running = true →
    s.path.orderList[i]? = some e → e.pieces[k]? = some p → p.state = .issued →
    (e.isWrite = true ∨ code = .other ∨ data.length = p.count) →
    let p' : Piece :=
      { p with
        state := .answered
        code := if code = .okay then .okay else .memerr
        answer := if e.isWrite then [] else if code = .okay then data else List.replicate p.count 0 }
    let es := s.path.orderList.set i { e with pieces := e.pieces.set k p' }
    let settled := es.takeWhile OrderEntry.ready
    let cleared : State := { s with path := { s.path with
      orderList := settled.map (fun x => { x with notices := [] }) ++ es.dropWhile OrderEntry.ready } }
    ∃ t, exec (.pieceAnswered i k code data) s = .next t
      ∧ t = State.commit ((settled.flatMap (·.notices)).foldl State.deliver cleared)
      ∧ t.path.orderList = cleared.path.orderList
      ∧ t.path.port = s.path.port ∧ t.path.inFlight = s.path.inFlight ∧ t.path.lastGrant = s.path.lastGrant
      ∧ ((∀ x ∈ s.path.orderList, x.notices = []) → t = { s with path := { s.path with orderList := es } })

/-- UPSTREAM_RESPONSE_LEAVES: the READY head's response goes out with its id, its code and a read's data in beat order, and
its entry leaves the list; a transfer waiting on the port is then taken. A head that is not READY, or no head, lets nothing
leave. The code of a response (R15) is MEMERR if any piece was answered MEMERR; otherwise, of a write, DENIED if any beat was
withheld; otherwise OKAY. -/
def Obligations.ReadyHeadLeaves : Prop :=
  (∀ (s : State), s.running = true →
    (∀ e es, s.path.orderList = e :: es → e.ready = true →
      let r : Response := ⟨e.id, e.code, if e.isWrite then [] else (List.range e.beatCount).map e.beatValue⟩
      (s.path.port = [] →
        exec .upstreamResponseLeaves s = .next { s with path := { s.path with orderList := es, upstreamOut := some r } })
      ∧ (∀ x xs, s.path.port = x :: xs → es.length < 16 →
          ∃ t, exec .upstreamResponseLeaves s = .next t ∧ t.path.upstreamOut = some r ∧ t.path.port = xs
            ∧ t.path.orderList.map (·.id) = es.map (·.id) ++ [x.id]))
    ∧ (s.path.readyHead = none → exec .upstreamResponseLeaves s = .next s))
  ∧ ∀ e : OrderEntry,
    ((∃ p ∈ e.pieces, p.code = .memerr) → e.response.code = .memerr)
    ∧ ((∀ p ∈ e.pieces, p.code ≠ .memerr) → e.isWrite = true → .withhold ∈ e.dispositions → e.response.code = .denied)
    ∧ ((∀ p ∈ e.pieces, p.code ≠ .memerr) → (e.isWrite = false ∨ .withhold ∉ e.dispositions) → e.response.code = .okay)

/-- The bounds of the memory path hold in every state a step leads to from one where they hold. -/
def Obligations.PathSoundKept : Prop :=
  ∀ s t : State, s.path.sound = true → step s = .next t → t.path.sound = true

/-- Right after reset the memory path's bounds hold, the drive channels are sound and the rings are sound. -/
def Obligations.SoundAtReset : Prop :=
  (State.reset.path.sound = true)
  ∧ (State.reset.driveSound = true)
  ∧ (State.reset.ringsSound = true)

/-! ### The Plan Loader -/

/-- PLAN_SEQUENCE_TRIGGER, taken: any load in flight is abandoned and a new one begins, LOADING with the reason and the section
NONE and the low 16 bits as the attempted sequence; the write passes with a follow-on notice to the new load, and nothing
else changes. -/
def Obligations.SequenceTriggerBeginsLoad : Prop :=
  ∀ (id : TransferId) (v : Word) (s : State), s.takesNow = true →
    exec (.planSequenceTrigger id v) s = .next (State.withEntry
      { s with loader :=
        { s.loader with
          state := .loading
          reason := .none
          section_ := .none
          index := 0
          attempted := v.setWidth 16
          load := some ⟨s.loader.loadSerial, v, .awaitingNotice, 0, 0, Page.empty⟩
          loadSerial := s.loader.loadSerial + 1 } }
      (triggerEntry id (planBase s.planSel + 4) v [.plan s.loader.loadSerial]))

/-- The answer of the write that made a request settles its entry and delivers its notice. A sequence trigger: the load submits
its first two reads, 16 beats from the page's base and 16 from 64 bytes on. A slot request: the slot that still waits for
that fetch has its record read, 8 beats from its place in the POST window; with the slot in another state or waiting for
another fetch nothing comes of it. A release: it is carried out in its ring. -/
def Obligations.AnsweredTriggerDeliversNotice : Prop :=
  ∀ (s : State) (e : OrderEntry) (p : Piece), s.running = true → s.path.queue = [] → s.path.waitList = [] →
    s.path.orderList = [e] → e.isWrite = true → e.pieces = [p] → p.state = .issued →
    let settled : Path := { s.path with orderList :=
      [{ e with pieces := [{ p with state := .answered, code := .okay, answer := [] }], notices := [] }] }
    (∀ l : Load, s.loader.load = some l → l.stage = .awaitingNotice → e.notices = [.plan l.serial] →
      exec (.pieceAnswered 0 0 .okay []) s = .next
        { s with
          loader := { s.loader with load := some { l with stage := .reading, nextRead := 2, outstanding := 2 } }
          path := { settled with queue :=
            [⟨.planRead l.serial 0, false, planBase s.planSel, 16, []⟩,
              ⟨.planRead l.serial 1, false, planBase s.planSel + 64, 16, []⟩] } })
    ∧ (∀ (l : LinkId) (i : SlotId) (n : Nat) (a : Addr), e.notices = [.fetch l i n] →
        s.plan.windowAddr (.post l) (64 + 32 * i.val) = some a →
        ((s.slot l i).state = .fetching → (s.slot l i).fetch = some n →
          exec (.pieceAnswered 0 0 .okay []) s = .next
            { s with path := { settled with queue := [⟨.fetch l i n, false, a, 8, []⟩] } })
        ∧ ((s.slot l i).state ≠ .fetching ∨ (s.slot l i).fetch ≠ some n →
          exec (.pieceAnswered 0 0 .okay []) s = .next { s with path := settled }))
    ∧ (∀ (r : RingId) (i : Nat), e.notices = [.release r i] →
        exec (.pieceAnswered 0 0 .okay []) s = .next
          { s with
            path := settled
            ringWriter := { s.ringWriter with rings := update s.ringWriter.rings r fun g => g.release i } })

/-- PLAN_READ_COMPLETE of the load in flight. With reads left to submit: OKAY stores the 16 words and submits the next read of 64
bytes; MEMERR ends the load REFUSED with READ_FAILED, section PAGE and the index of the read, counts the error and raises
MEMORY and PLAN, and the plan in force stays. The last read of a page: a page that fails a check is REFUSED with that
check's reason, section and index and the plan in force stays; one that passes comes into force under its sequence
number, with the effects of a plan coming into force and no others. Both raise cause PLAN. -/
def Obligations.PlanReadStoresOrEndsLoad : Prop :=
  (∀ (s : State) (nth i : Nat) (r : Request) (l : Load) (data : List Word), s.running = true →
      s.path.inFlight[nth]? = some r → r.purpose = .planRead l.serial i → r.isWrite = false → r.beats = data.length →
      s.loader.load = some l →
      (∀ h : i < 64, l.nextRead < 64 → exec (.planReadComplete nth .okay data) s = .next
          { s with
            loader := { s.loader with load := some { l with page := l.page.set i data, nextRead := l.nextRead + 1 } }
            path := Path.join { s.path with inFlight := s.path.inFlight.eraseIdx nth }
              ⟨.planRead l.serial l.nextRead, false, planBase s.planSel + BitVec.ofNat 40 (64 * l.nextRead), 16, []⟩ })
      ∧ exec (.planReadComplete nth .other data) s = .next
          { s with
            loader := { s.loader with state := .refused, reason := .readFailed, section_ := .page, index := i, load := none }
            path := { s.path with inFlight := s.path.inFlight.eraseIdx nth }
            status := StatusUnit.raise
              (StatusUnit.raise { s.status with memoryErrors := satInc s.status.memoryErrors } s.plan.attentionMask
                s.plan.lineMode .memory) s.plan.attentionMask s.plan.lineMode .plan })
  ∧ (∀ (s : State) (nth i : Nat) (r : Request) (l : Load) (data : List Word), s.running = true →
      s.path.inFlight[nth]? = some r → r.purpose = .planRead l.serial i → r.isWrite = false → r.beats = data.length →
      s.loader.load = some l → l.nextRead = 64 → l.outstanding = 1 →
      ∀ h : i < 64,
        let page := l.page.set i data
        ∃ t, exec (.planReadComplete nth .okay data) s = .next t ∧ t.caused .plan = true
          ∧ t.path.inFlight = s.path.inFlight.eraseIdx nth
          ∧ (∀ f, s.checkPlan page l.value = some f →
              t.loader = { s.loader with
                state := .refused, reason := f.reason, section_ := f.section_, index := f.index, load := none }
              ∧ sameDrive s t ∧ sameLinks s t ∧ sameReceive s t ∧ t.poll = s.poll)
          ∧ (s.checkPlan page l.value = none →
              t.loader = { s.loader with
                state := .inForce, reason := .none, section_ := .none, index := 0, inForce := s.loader.attempted,
                plan := pagePlan page, load := none }
              ∧ t = State.commit (State.forcePlan { s with path := { s.path with inFlight := s.path.inFlight.eraseIdx nth } }
                  (pagePlan page))))

/-- A page whose first 4 bytes are not the signature fails SIGNATURE before any other check, with section HEADER and index 0;
one whose first 4 bytes are the signature never does. -/
def Obligations.SignatureCheckedFirst : Prop :=
  ∀ (s : State) (p : Page) (v : Word),
    (pageNat p 0 4 ≠ 0x50365A54 → s.checkPlan p v = some ⟨.signature, .header, 0⟩)
    ∧ (pageNat p 0 4 = 0x50365A54 → ∀ f, s.checkPlan p v = some f → f.reason ≠ .signature)

/-- A plan coming into force: a ring that moves is reset to its new length with its OVERFLOWS kept, and any other is as it
was; a poll entry that becomes valid, is no longer valid, or changes its link or Tag is reset, its ask count 0 and its
auto timer started where the new settings have an interval, and one whose settings are the same is as it was; an ARMED slot
becomes IDLE if its POST window moves and is as it was if not (one that its send queue names cannot be ARMED in a run); a
link keeps its mode, its pending mode and its health; and cause PLAN is raised. -/
def Obligations.PlanIntoForceResets : Prop :=
  ∀ (s : State) (q : Plan),
    let t := s.forcePlan q
    t.loader.plan = q ∧ t.caused .plan = true
      ∧ (∀ r : RingId, s.ringMoves q r = true →
          t.ring r = { Ring.reset with
            length := effectiveLength q r
            conds := List.replicate (effectiveLength q r) .free
            overflows := (s.ring r).overflows })
      ∧ (∀ r : RingId, s.ringMoves q r = false → t.ring r = s.ring r)
      ∧ (∀ p : PollId,
          ((s.pollSettings p).isSome ≠ (look q.poll p).isSome
              ∨ (∃ a b, s.pollSettings p = some a ∧ look q.poll p = some b ∧ (a.link ≠ b.link ∨ a.tag ≠ b.tag)) →
            t.pollEntry p = { PollEntry.reset with autoTimer := (look q.poll p).bind fun k =>
              if k.autoInterval = 0 then none else some (later s.status.stamp k.autoInterval) })
          ∧ (s.pollSettings p = look q.poll p → t.pollEntry p = s.pollEntry p))
      ∧ (∀ (l : LinkId) (i : SlotId), (s.slot l i).state = .armed → (∀ x ∈ (s.sender l).queue, x.ref ≠ .slot i) →
          (s.plan.windowBase (.post l) ≠ q.windowBase (.post l) → (t.slot l i).state = .idle ∧ (t.slot l i).armedTag = none)
          ∧ (s.plan.windowBase (.post l) = q.windowBase (.post l) → t.slot l i = s.slot l i))
      ∧ (∀ l : LinkId, (t.link l).mode = (s.link l).mode ∧ (t.link l).pendingMode = (s.link l).pendingMode
          ∧ (t.link l).health = (s.link l).health)

/-- A plan coming into force, the drive channels and the Repeater: a READY channel without settings in it goes to SAFE; every
guard of the new interlock table is judged, against the poll cache as the new plan leaves it, and a moving channel with an
unmet guard of its direction stops with reason INTERLOCK and cause STOPPED; any other channel is as it was. A frame being
sent goes on as the frame finishing; no cycle is owed; the period timer starts from the event, or with a period of 0 the
Repeater is OFF with its timer stopped. -/
def Obligations.PlanIntoForceJudgesChannels : Prop :=
  ∀ (s : State) (q : Plan),
    let t := s.forcePlan q
    let u : State := { s with loader := t.loader, poll := t.poll }
    t.guards = t.guardResults
      ∧ (∀ c : ChanId,
          ((s.chan c).state = .ready → look q.drives c = none → (t.chan c).state = .safe ∧ (t.chan c).duty = 0)
          ∧ (u.unguarded c = true → (t.chan c).state = .stopping ∧ (t.chan c).stopReason = .interlock
              ∧ (t.chan c).motion = none ∧ (t.chan c).duty = 0
              ∧ (t.chan c).dwellEnd = some (later s.status.stamp (u.stopDwell c)) ∧ t.caused .stopped = true)
          ∧ (u.unguarded c = false → ((s.chan c).state ≠ .ready ∨ look q.drives c ≠ none) →
              t.chan c = s.chan c ∧ t.prot c = s.prot c))
      ∧ t.esl = s.esl
      ∧ t.repeater.finishing = (match s.repeater.frame with | .sending f => some f | _ => s.repeater.finishing)
      ∧ t.repeater.owed = false
      ∧ (q.repeater.period = 0 → t.repeater.cycle = .off ∧ t.repeater.timer = none ∧ t.repeater.frame = .none)
      ∧ (q.repeater.period ≠ 0 → t.repeater.timer = some (later s.status.stamp q.repeater.period)
          ∧ t.repeater.position = 0 ∧ (t.repeater.cycle = .cycling ↔ q.repeater.sources ≠ []))

/-! ### Mode requests -/

/-- A mode request taken while a message or an error mark is under way: the mode waits, and a later request replaces one
that waits; nothing else changes. A request for QUIET that would leave a mode other than RUN and LISTEN is withheld: the link
is as it was, the write is counted, captured and raised as WITHHELD, and its entry waits for nothing and answers DENIED. -/
def Obligations.ModeRequestWaitsOrIsWithheld : Prop :=
  (∀ (m : Mode) (l : LinkId) (id : TransferId) (a : Addr) (s : State), s.takesNow = true →
      s.plan.windowAddr (.post l) 0 = some a → s.sees a (.mode l) = true → (s.link l).busy = true →
      (s.link l).acceptsMode m = true →
      exec (modeCommand m l id) s = .next (State.withEntry
        { s with links := update s.links l fun k => { k with pendingMode := some m } }
        (triggerEntry id a (BitVec.ofNat 32 m.code) [])))
  ∧ (∀ (l : LinkId) (id : TransferId) (a : Addr) (s : State), s.takesNow = true →
      s.plan.windowAddr (.post l) 0 = some a → s.sees a (.mode l) = true → (s.link l).acceptsMode .quiet = false →
      exec (.modeRequestQuiet l id) s = .next (State.withEntry
        { s with
          status := StatusUnit.raise { s.status with withheld := satInc s.status.withheld, lastWithheld := a }
            s.plan.attentionMask s.plan.lineMode .withheld }
        ⟨id, true, a, 1, [.withhold], [], [], []⟩))

/-- A mode request taken with the link not busy completes at once and raises cause LINK. SETUP clears the score, the
health and the recovery and aborts every slot and the queue; RUN and LISTEN from another mode wait for a quiet gap; MIRROR
and QUIET detach the link, and QUIET from RUN or LISTEN keeps the mode left. -/
def Obligations.ModeRequestCompletes : Prop :=
  ∀ (m : Mode) (l : LinkId) (id : TransferId) (a : Addr) (s : State), s.takesNow = true →
    s.plan.windowAddr (.post l) 0 = some a → s.sees a (.mode l) = true → (s.link l).busy = false →
    (s.link l).acceptsMode m = true →
    ∃ t, exec (modeCommand m l id) s = .next t
      ∧ (t.link l).mode = m ∧ (t.link l).pendingMode = none ∧ t.caused .link = true
      ∧ t.path = (s.withEntry (triggerEntry id a (BitVec.ofNat 32 m.code) [])).path
      ∧ sameDrive s t ∧ sameReceive s t ∧ samePlan s t ∧ otherLinksSame s t l ∧ statusOnlyRaised s t
      ∧ (m = .setup → (t.link l).score = 0 ∧ (t.link l).health = .active ∧ (t.link l).recoveryArmed = false
          ∧ (t.link l).phase = .detached ∧ (t.sender l).queue = [] ∧ (t.sender l).slots = (s.sender l).slots.map Slot.abort)
      ∧ (m = .run ∨ m = .listen → (s.link l).mode ≠ .run → (s.link l).mode ≠ .listen →
          (t.link l).phase = .gapWait ∧ (t.link l).gapCount = 0)
      ∧ (m = .mirror → (s.link l).mode ≠ .mirror → (t.link l).phase = .detached ∧ (t.link l).mirrorGap = false)
      ∧ (m = .quiet → (t.link l).phase = .detached
          ∧ ((s.link l).mode = .run ∨ (s.link l).mode = .listen → (t.link l).modeLeft = (s.link l).mode))

/-! ### The deck lines -/

/-- QUIET_GAP: the phase is IDLE, a recovering link counts the gap, and in RUN the head of the send queue goes on the
wire, if there is one and the link is not SILENT; nothing else changes. RECOVERY, the 64th gap of a SILENT link: score
0, health ACTIVE, the recovery over, cause LINK, the phase IDLE, and the head of the send queue goes on the wire if
there is one.
START_MARK_READ: the link receives, with the start mark in its assembly buffer; nothing else changes. QUIET_WAKE: the
link returns to its mode left, waits for a quiet gap, and raises cause LINK; nothing else changes. -/
def Obligations.GapsStartMarksAndWakes : Prop :=
  (∀ (l : LinkId) (levels : List Level) (s : State), s.running = true → s.brings l levels .gap = true →
      (s.link l).lastGap = false →
      let k := s.after l levels
      let k' : LinkCtl :=
        { k with phase := .idle, idleRun := 0, recoveryGaps := if k.recovering then k.recoveryGaps + 1 else k.recoveryGaps }
      ((k'.canTake = false ∨ (s.sender l).queue = []) →
        exec (.quietGap l levels) s = .next { s with links := update s.links l fun _ => k' })
      ∧ (∀ x xs, k.mode = .run → k.health ≠ .silent → (s.sender l).queue = x :: xs →
          let m := (s.sender l).message x.ref
          exec (.quietGap l levels) s = .next
            { s with
              links := update s.links l fun _ =>
                { k' with phase := .sending, item := some ⟨x.ref, m, m.levels, true⟩, assembly := Assembly.empty }
              senders := update s.senders l fun c => { c with queue := xs }.putOnWire x.ref }))
  ∧ (∀ (l : LinkId) (levels : List Level) (s : State), s.running = true → s.brings l levels .gap = true →
        (s.link l).lastGap = true →
        ∃ t, exec (.recovery l levels) s = .next t ∧ onlyLink s t l ∧ t.poll = s.poll ∧ t.caused .link = true
          ∧ (t.link l).score = 0 ∧ (t.link l).health = .active ∧ (t.link l).recoveryArmed = false
          ∧ (t.link l).recoveryGaps = 0 ∧ (t.link l).mode = .run
          ∧ ((s.sender l).queue = [] → (t.link l).phase = .idle ∧ t.sender l = s.sender l)
          ∧ (∀ x xs, (s.sender l).queue = x :: xs → (t.link l).phase = .sending
              ∧ (t.link l).item.map (·.ref) = some x.ref ∧ (t.sender l).queue = xs))
  ∧ (∀ (l : LinkId) (levels : List Level) (s : State), s.running = true → s.brings l levels .startMark = true →
      exec (.startMarkRead l levels) s = .next { s with links := update s.links l fun _ =>
        { s.after l levels with
          phase := .receiving
          idleRun := 0
          assembly := ⟨1, [.dominant], .dominant, 0xFFFF#16⟩ } })
  ∧ (∀ (l : LinkId) (levels : List Level) (s : State), s.running = true → s.brings l levels .wake = true →
        exec (.quietWake l levels) s = .next
          { s with
            links := update s.links l fun k =>
              { s.after l levels with mode := k.modeLeft, phase := .gapWait, gapCount := 0, idleRun := 0 }
            status := s.status.raise s.plan.attentionMask s.plan.lineMode .link })

/-- ARBITRATION_LOST: the link goes on as a receiver and the item leaves the wire. A slot's message rejoins the send queue at
the place its priority and acceptance number give, with its attempts as they were; one marked for abort becomes ABORTED.
A mode that waited completes. -/
def Obligations.ArbitrationLossCostsNoAttempt : Prop :=
  ∀ (l : LinkId) (levels : List Level) (s : State), s.running = true → s.brings l levels .lost = true →
    (s.link l).mode = .run →
    let k := s.after l levels
    ∃ t, exec (.arbitrationLost l levels) s = .next t ∧ onlyLink s t l
      ∧ (k.pendingMode = none → t.link l = { k with phase := .receiving, item := none })
      ∧ (∀ m, k.pendingMode = some m → (t.link l).mode = m ∧ (t.link l).pendingMode = none ∧ t.caused .link = true)
      ∧ (∀ i, k.item.map (·.ref) = some (.slot i) → k.pendingMode = none →
          let sl := s.slot l i
          let c := s.sender l
          (sl.abortMark = false → t.sender l =
            { c with
              slots := update c.slots i fun x => { x with state := .queued }
              queue := insertItem c.acceptCount ⟨.slot i, (sl.body.map (·.priority)).getD 0, sl.acceptance⟩ c.queue })
          ∧ (sl.abortMark = true → (t.slot l i).state = .aborted ∧ (t.slot l i).attempts = sl.attempts
              ∧ t.caused .sent = true))

/-- MESSAGE_SENT: SENT counts, the score falls by 1 but not below 0 where the link is not SILENT, the phase is GAP_WAIT and the
item leaves the wire. A sending slot becomes SENT with cause SENT; an answering one counts its answer and is ARMED again. -/
def Obligations.MessageSentEndsItem : Prop :=
  ∀ (l : LinkId) (levels : List Level) (s : State), s.running = true → s.brings l levels .sentOk = true →
    (s.link l).mode = .run → (s.link l).pendingMode = none →
    let k := s.after l levels
    ∃ t, exec (.messageSent l levels) s = .next t ∧ onlyLink s t l
      ∧ (t.link l).sent = satInc k.sent ∧ (t.link l).phase = .gapWait ∧ (t.link l).item = none
      ∧ (t.link l).mode = .run
      ∧ (k.health ≠ .silent → (t.link l).score = (if k.score = 0 then 0 else k.score - 1)
          ∧ (t.link l).health = healthOf (t.link l).score
          ∧ (healthOf (t.link l).score ≠ k.health → t.caused .link = true))
      ∧ (k.health = .silent → (t.link l).score = k.score ∧ (t.link l).health = .silent)
      ∧ (∀ i, k.item.map (·.ref) = some (.slot i) →
          ((s.slot l i).purpose ≠ .answer → (t.slot l i).state = .sent ∧ t.caused .sent = true)
          ∧ ((s.slot l i).purpose = .answer → (s.slot l i).abortMark = false → (t.slot l i).state = .armed
              ∧ (t.slot l i).answers = satInc (s.slot l i).answers ∧ (t.slot l i).armedTag = (s.slot l i).armedTag))

/-- The errors of a link in RUN that is not SILENT: the counter of the error counts, the score rises by 8 sending or by 1
receiving but not past 255, and health follows it. A link then ACTIVE begins an error mark with its item kept and no longer
sent; any other ends the message: GAP_WAIT, with no item. A CHECK error offers the message as read to the Receive Router with
damage CHECK, and the rings, the handoff queues and the memory path are as that leaves them. -/
def Obligations.ErrorsScoreAndMark : Prop :=
  ∀ (l : LinkId) (levels : List Level) (s : State), s.running = true → (s.link l).mode = .run →
    (s.link l).health ≠ .silent → (s.link l).pendingMode = none →
    let k := s.after l levels
    let w (n : Nat) : Nat := if k.score.toNat + n ≤ 255 then k.score.toNat + n else 255
    let ends (t : State) (n : Nat) : Prop :=
      (t.link l).score.toNat = w n ∧ (t.link l).health = healthOf (t.link l).score
        ∧ (healthOf (t.link l).score ≠ k.health → t.caused .link = true)
        ∧ ((t.link l).health = .active → (t.link l).phase = .marking ∧ (t.link l).markBits = 0
            ∧ (t.link l).item = k.item.map (fun it => { it with sending := false }) ∧ t.sender l = s.sender l)
        ∧ ((t.link l).health ≠ .active → (t.link l).phase = .gapWait ∧ (t.link l).item = none)
    (s.brings l levels .shape = true → ∃ t, exec (.shapeError l levels) s = .next t ∧ onlyLink s t l ∧ ends t 1
      ∧ (t.link l).shape = satInc k.shape)
    ∧ (s.brings l levels .check = true → ∃ t, exec (.checkError l levels) s = .next t ∧ ends t 1
      ∧ (t.link l).check = satInc k.check ∧ sameDrive s t ∧ samePlan s t ∧ t.repeater = s.repeater ∧ otherLinksSame s t l
      ∧ (let d := s.routeDamaged l k.assembly.message s.status.stamp
        t.ringWriter = d.ringWriter ∧ t.routers = d.routers ∧ t.path = (State.commit d).path
          ∧ (d.caused .overflow = true → t.caused .overflow = true)))
    ∧ (s.brings l levels .noConfirm = true → ∃ t, exec (.noConfirmError l levels) s = .next t ∧ onlyLink s t l ∧ ends t 8
      ∧ (t.link l).noConfirm = satInc k.noConfirm)
    ∧ (s.brings l levels .clash = true → ∃ t, exec (.clashError l levels) s = .next t ∧ onlyLink s t l ∧ ends t 8
      ∧ (t.link l).clash = satInc k.clash)

/-- STUCK: it counts, the message is abandoned without an error mark whatever the health, and the phase is GAP_WAIT. The
item on the wire ends with outcome ERROR: its slot's attempts rise by 1. ERROR_MARK_END: the phase is GAP_WAIT and the
item, if there is one, ends with outcome ERROR. A sending slot whose attempts with this one stay within the retry
limit, or with the limit 15, rejoins the queue; beyond the limit it becomes FAILED with reason RETRIES, and cause SENT
is raised. -/
def Obligations.StuckAndMarkEndFailItem : Prop :=
  (∀ (l : LinkId) (levels : List Level) (s : State), s.running = true → s.brings l levels .stuck = true →
      (s.link l).mode = .run → (s.link l).pendingMode = none →
      let k := s.after l levels
      ∃ t, exec (.stuck l levels) s = .next t ∧ onlyLink s t l
        ∧ (t.link l).stuck = satInc k.stuck ∧ (t.link l).phase = .gapWait ∧ (t.link l).item = none
        ∧ (∀ i, k.item.map (·.ref) = some (.slot i) → (t.slot l i).attempts = satInc (s.slot l i).attempts))
  ∧ (∀ (l : LinkId) (levels : List Level) (s : State), s.running = true → s.brings l levels .markEnd = true →
        (s.link l).mode = .run → (s.link l).pendingMode = none →
        let k := s.after l levels
        ∃ t, exec (.errorMarkEnd l levels) s = .next t ∧ onlyLink s t l
          ∧ t.link l = { k with phase := .gapWait, gapCount := 0, idleRun := 0, item := none }
          ∧ (k.item = none → t.sender l = s.sender l)
          ∧ (∀ i, k.item.map (·.ref) = some (.slot i) → (s.slot l i).purpose ≠ .answer → (s.slot l i).abortMark = false →
              let sl := s.slot l i
              let limit := (s.linkSettings l).retryLimit
              ((limit = 15 ∨ (satInc sl.attempts).toNat ≤ limit) →
                t.slot l i = { sl with state := .queued, attempts := satInc sl.attempts })
              ∧ (limit ≠ 15 → limit < (satInc sl.attempts).toNat →
                (t.slot l i).state = .failed ∧ (t.slot l i).failReason = .retries
                  ∧ (t.slot l i).attempts = satInc sl.attempts ∧ t.caused .sent = true)))

/-- MESSAGE_RECEIVED: RECEIVED counts, the last-captured record is the message and the stamp, and the phase is GAP_WAIT. In RUN
and not SILENT the score falls by 1 but not below 0, and health follows it, a change of it raising LINK. The message is then
routed with damage NONE and the same stamp, and what that gives is the next state. -/
def Obligations.MessageReceivedIsCaptured : Prop :=
  ∀ (l : LinkId) (levels : List Level) (s : State), s.running = true → s.brings l levels .receivedOk = true →
    (s.link l).mode ≠ .mirror →
    let k := s.after l levels
    let m := k.assembly.message
    let scores : Prop := k.mode = .run ∧ k.health ≠ .silent
    let lower : BitVec 8 := if k.score = 0 then 0 else k.score - 1
    let k' := k.rescore (s.autoRecovery l) lower
    let captured : State :=
      { s with
        links := update s.links l fun _ =>
          { k' with
            received := satInc k.received
            lastCaptured := ⟨m.tag, m.kind, m.length, s.status.stamp⟩
            phase := .gapWait
            gapCount := 0
            idleRun := 0 }
        status := if k'.health = k.health then s.status else s.status.raise s.plan.attentionMask s.plan.lineMode .link }
    ∃ t, exec (.messageReceived l levels) s = .next t
      ∧ t = State.commit (State.routeGood captured l m s.status.stamp)
      ∧ (scores → (t.link l).score = lower ∧ (t.link l).health = healthOf lower)
      ∧ (¬ scores → (t.link l).score = k.score ∧ (t.link l).health = k.health)
      ∧ (t.link l).received = satInc k.received
      ∧ (t.link l).lastCaptured = ⟨m.tag, m.kind, m.length, s.status.stamp⟩
      ∧ (t.link l).phase = .gapWait ∧ (t.link l).mode = k.mode
      ∧ samePlan s t ∧ t.repeater = s.repeater ∧ t.status.stamp = s.status.stamp ∧ t.esl = s.esl

/-- MIRROR_GAP_END: the head of the send queue is mirrored, if there is one, with no level for the line; nothing else
changes. MIRRORED_MESSAGE_END: the message counts as sent and as received good, is captured, and leaves the link; its
slot, sending, becomes SENT with cause SENT. With the outcome SENT handed over, the message is routed as one received good, and
then a mode that waited completes; that order is log 21's. -/
def Obligations.MirrorTakesAndEndsMessage : Prop :=
  (∀ (l : LinkId) (s : State), s.running = true → (s.link l).mode = .mirror → (s.link l).item = none →
      (s.link l).mirrorGap = false →
      ((s.sender l).queue = [] → exec (.mirrorGapEnd l) s = .next
        { s with links := update s.links l fun k => { k with mirrorGap := true } })
      ∧ (∀ x xs, (s.sender l).queue = x :: xs → exec (.mirrorGapEnd l) s = .next
          { s with
            links := update s.links l fun k =>
              { k with
                mirrorGap := true
                item := some ⟨x.ref, (s.sender l).message x.ref, [], true⟩
                assembly := Assembly.empty }
            senders := update s.senders l fun c => { c with queue := xs }.putOnWire x.ref }))
  ∧ (∀ (l : LinkId) (s : State) (it : WireItem), s.running = true → (s.link l).mode = .mirror →
        (s.link l).item = some it →
        let handed : State :=
          State.itemOutcome { s with links := update s.links l fun k => { k with mirrorGap := false, item := none } } l it.ref
            .sent
        let received : State :=
          { handed with links := update handed.links l fun k =>
            { k with
              sent := satInc k.sent
              received := satInc k.received
              lastCaptured := ⟨it.message.tag, it.message.kind, it.message.length, s.status.stamp⟩ } }
        let routed : State := received.routeGood l it.message s.status.stamp
        ∃ t, exec (.mirroredMessageEnd l) s = .next t
          ∧ ((s.link l).pendingMode = none → t = routed.commit)
          ∧ (∀ m, (s.link l).pendingMode = some m → t = (routed.completeMode l m).commit)
          ∧ (t.link l).sent = satInc (s.link l).sent ∧ (t.link l).received = satInc (s.link l).received
          ∧ (t.link l).lastCaptured = ⟨it.message.tag, it.message.kind, it.message.length, s.status.stamp⟩
          ∧ (∀ i, it.ref = .slot i → (s.slot l i).purpose ≠ .answer → (t.slot l i).state = .sent ∧ t.caused .sent = true)
          ∧ samePlan s t ∧ t.repeater = s.repeater ∧ t.status.stamp = s.status.stamp
          ∧ ((s.link l).pendingMode = none → (t.link l).mode = .mirror ∧ (t.link l).item = none ∧ (t.link l).mirrorGap = false)
          ∧ (∀ m, (s.link l).pendingMode = some m → (t.link l).mode = m ∧ (t.link l).pendingMode = none ∧ t.caused .link = true))

/-- What a sender sends, a receiver reads: for every message whose fields fit, a receiver that reads its paced part, a confirm
slot of either level and a recessive end mark finds it good at the last bit, with every field as sent. -/
def Obligations.SentMessageIsReadBack : Prop :=
  ∀ (m : Message) (c : Level), m.wf = true →
    ∃ a, Assembly.empty.read (paced 0 m.pacedPart ++ c :: List.replicate 7 .recessive) = (.good, a, [])
      ∧ a.message = m

/-! ### Routing -/

/-- A DATA message that is no command, that no HEAR entry takes and that the sieves send to a ring: with two messages
waiting for the Ring Writer it is an overrun, else with the ring full an overflow, each counted with cause OVERFLOW; else
the entry at the head is reserved and the message waits for the Ring Writer. An idle Ring Writer for which no other message
waits takes it at once and submits the body write: 7 full beats from the entry's address plus 4, with the link, the sieve,
the Kind, the Length, the Tag, damage NONE, the stamp and the payload padded to 16 bytes. -/
def Obligations.SievedMessageIsAdmitted : Prop :=
  ∀ (s : State) (l : LinkId) (m : Message) (now : Stamp) (k : Fin 16) (r : RingId), m.kind = .data →
    s.bindingFor l m.tag = none → s.hearFor l m.tag = none → s.sieveFor l m = some (k, .ring r) →
    (2 ≤ (s.router l).handoff.length →
      s.routeGood l m now = (s.modRouter l fun q => { q with overruns := satInc q.overruns }).raise .overflow)
    ∧ ((s.router l).handoff.length < 2 → (s.ring r).length ≤ (s.ring r).pending + (s.ring r).reserved →
      s.routeGood l m now = (s.modRing r fun g => { g with overflows := satInc g.overflows }).raise .overflow)
    ∧ ((s.router l).handoff.length < 2 → (s.ring r).pending + (s.ring r).reserved < (s.ring r).length →
        s.ringWriter.writing.isSome = true →
      s.routeGood l m now =
        { s with
          ringWriter :=
            { s.ringWriter with rings := update s.ringWriter.rings r fun g =>
              { g with
                conds := g.conds.set g.head .reserved
                reserved := g.reserved + 1
                head := if g.head + 1 < g.length then g.head + 1 else 0 } }
          routers := update s.routers l fun q =>
            { q with handoff := q.handoff ++ [⟨l, r, (s.ring r).head, k.val, m, .none, now⟩] } })
    ∧ (∀ a, (s.ring r).pending + (s.ring r).reserved < (s.ring r).length → s.ringWriter.writing = none →
        (s.router 0).handoff = [] → (s.router 1).handoff = [] →
        s.plan.windowAddr (.gather r) (32 * (s.ring r).head + 4) = some a →
        let body : List Byte :=
          [BitVec.ofNat 8 l.val, BitVec.ofNat 8 k.val, BitVec.ofNat 8 m.kind.code, BitVec.ofNat 8 m.length,
            m.tag.setWidth 8, (m.tag >>> 8).setWidth 8, 0, 0, now.setWidth 8, (now >>> 8).setWidth 8,
            (now >>> 16).setWidth 8, (now >>> 24).setWidth 8]
          ++ (m.payload.take 16 ++ List.replicate (16 - m.payload.length) 0)
        s.routeGood l m now =
          { s with
            ringWriter :=
              { rings := update s.ringWriter.rings r fun g =>
                  { g with
                    conds := g.conds.set g.head .reserved
                    reserved := g.reserved + 1
                    head := if g.head + 1 < g.length then g.head + 1 else 0 }
                writing := some ⟨⟨l, r, (s.ring r).head, k.val, m, .none, now⟩, false⟩
                lastServed := l }
            path := { s.path with staged := s.path.staged ++
              [⟨.ringBody, true, a, 7, (List.range 7).map fun j => ⟨wordAt body j, 15#4⟩⟩] } })

/-- The other ends of routing: a message dropped by its sieve changes nothing, one that nothing matches is counted
UNROUTED, a REPLY for a poll entry that waits is stored there as FRESH, and a DATA message bound to a channel is judged as
its command. A DATA message whose Tag a HEAR entry has is captured there with its stamp, the entry FRESH and its staleness
timer started, and goes on to the sieves. A damaged message is tried by the sieves alone: it goes to its ring with damage
CHECK where the ring keeps damaged messages, and otherwise changes nothing. -/
def Obligations.RoutingEnds : Prop :=
  ∀ (s : State) (l : LinkId) (m : Message) (now : Stamp),
    (∀ k, m.kind = .data → s.bindingFor l m.tag = none → s.hearFor l m.tag = none → s.sieveFor l m = some (k, .drop) →
      s.routeGood l m now = s)
    ∧ (m.kind = .data → s.bindingFor l m.tag = none → s.hearFor l m.tag = none → s.sieveFor l m = none →
      s.routeGood l m now = s.modRouter l fun q => { q with unrouted := satInc q.unrouted })
    ∧ (∀ p, m.kind = .reply → s.replyFor l m.tag = some p →
        let e := (s.routeGood l m now).pollEntry p
        e.state = .fresh ∧ e.value = some m.payload ∧ e.valueStamp = now ∧ e.stale = false ∧ e.replyTimer = none)
    ∧ (∀ c, m.kind = .data → s.bindingFor l m.tag = some c → 6 ≤ m.length →
        s.routeGood l m now = s.command c (if l = 0 then .deck0 else .deck1) (deckPayload m.payload))
    ∧ (∀ p set, m.kind = .data → s.bindingFor l m.tag = none → s.hearFor l m.tag = some p → s.pollSettings p = some set →
        let t := s.routeGood l m now
        t.pollEntry p =
            { s.pollEntry p with
              state := .fresh
              value := some m.payload
              valueStamp := now
              stale := false
              replyTimer := none
              staleTimer := if set.maxAge = 0 then none else some (later now (set.maxAge + 1)) }
          ∧ (∀ q, q ≠ p → t.pollEntry q = s.pollEntry q)
          ∧ (s.sieveFor l m = none → (t.router l).unrouted = satInc (s.router l).unrouted)
          ∧ (∀ k, s.sieveFor l m = some (k, .drop) → t.routers = s.routers ∧ t.ringWriter = s.ringWriter)
          ∧ (∀ k r, s.sieveFor l m = some (k, .ring r) → (s.router l).handoff.length < 2 →
              (s.ring r).pending + (s.ring r).reserved < (s.ring r).length →
              (t.ring r).reserved = (s.ring r).reserved + 1))
    ∧ (∀ k r, s.sieveFor l m = some (k, .ring r) → (s.ringSettings r).keepDamaged = true →
        s.routeDamaged l m now = s.intoRing l r k.val m .check now)
    ∧ ((s.sieveFor l m = none ∨ (∃ k, s.sieveFor l m = some (k, .drop))
          ∨ ∃ k r, s.sieveFor l m = some (k, .ring r) ∧ (s.ringSettings r).keepDamaged = false) →
        s.routeDamaged l m now = s)

/-! ### Sending -/

/-- SEND accepted: the acceptance count advances, the slot is FETCHING for a new fetch with its attempts, abort mark and
failure reason cleared, and the write passes in one piece with the fetch's notice; nothing else changes. ANSWER accepted: with its Tag
written in the same transfer the slot is ARMED under that Tag at once; without, it is FETCHING its record. Its
attempts and answers are cleared either way. -/
def Obligations.SendAndAnswerAccepted : Prop :=
  (∀ (l : LinkId) (i : SlotId) (id : TransferId) (body : Option (Vector Word 5)) (s : State),
      s.takesRequest l i 1 id body = true → (s.slot l i).state ∈ [SlotState.idle, .sent, .failed, .aborted] →
      (s.link l).mode ≠ .setup →
      ∃ x, requestTransfer s.plan l i 1 id body = some x
        ∧ exec (.send l i id body) s = .next (State.withEntry
          { s with senders := update s.senders l fun c =>
            { c with
              slots := update c.slots i fun sl =>
                { sl with
                  state := .fetching
                  purpose := .send
                  attempts := 0
                  abortMark := false
                  failReason := .none
                  fetch := some c.fetchSerial
                  acceptance := c.acceptCount + 1 }
              acceptCount := c.acceptCount + 1
              fetchSerial := c.fetchSerial + 1 } }
          (requestEntry x body [.fetch l i (s.sender l).fetchSerial])))
  ∧ (∀ (l : LinkId) (i : SlotId) (id : TransferId) (s : State),
        (s.slot l i).state ∈ [SlotState.idle, .sent, .failed, .aborted] → (s.link l).mode ≠ .setup →
        let fresh (c : SendCtl) (sl : Slot) : Slot :=
          { sl with
            purpose := .answer, attempts := 0, answers := 0, abortMark := false, failReason := .none
            acceptance := c.acceptCount + 1 }
        (∀ ws : Vector Word 5, s.takesRequest l i 2 id (some ws) = true →
          ∃ x, requestTransfer s.plan l i 2 id (some ws) = some x
            ∧ exec (.answer l i id (some ws)) s = .next (State.withEntry
              { s with senders := update s.senders l fun c =>
                { c with
                  slots := update c.slots i fun sl =>
                    { fresh c sl with
                      state := .armed, armedTag := some (ws[0].extractLsb' 16 16), fetch := none, body := none }
                  acceptCount := c.acceptCount + 1 } } (requestEntry x (some ws) [])))
        ∧ (s.takesRequest l i 2 id none = true →
          ∃ x, requestTransfer s.plan l i 2 id none = some x
            ∧ exec (.answer l i id none) s = .next (State.withEntry
              { s with senders := update s.senders l fun c =>
                { c with
                  slots := update c.slots i fun sl => { fresh c sl with state := .fetching, fetch := some c.fetchSerial }
                  acceptCount := c.acceptCount + 1
                  fetchSerial := c.fetchSerial + 1 } }
              (requestEntry x none [.fetch l i (s.sender l).fetchSerial]))))

/-- ABORT by the state of its slot: FETCHING and QUEUED become ABORTED with cause SENT, and a QUEUED one leaves the queue;
ON_WIRE is marked; ARMED becomes IDLE without a cause; any other is as it was. No other slot changes. -/
def Obligations.AbortBySlotState : Prop :=
  ∀ (l : LinkId) (i : SlotId) (id : TransferId) (s : State), s.takesRequest l i 3 id none = true →
    let sl := s.slot l i
    ∃ t, exec (.abort l i id) s = .next t
      ∧ t.links = s.links ∧ t.poll = s.poll ∧ sameDrive s t ∧ sameReceive s t ∧ samePlan s t ∧ otherLinksSame s t l
      ∧ (∀ j, j ≠ i → t.slot l j = s.slot l j)
      ∧ (sl.state = .fetching ∨ sl.state = .queued →
          (t.slot l i).state = .aborted ∧ (t.slot l i).fetch = none ∧ (t.slot l i).body = none ∧ t.caused .sent = true)
      ∧ (sl.state = .queued → (t.sender l).queue = (s.sender l).queue.filter (fun x => x.ref != .slot i))
      ∧ (sl.state ≠ .queued → (t.sender l).queue = (s.sender l).queue)
      ∧ (sl.state = .onWire → t.slot l i = { sl with abortMark := true } ∧ t.status = s.status)
      ∧ (sl.state = .armed → (t.slot l i).state = .idle ∧ (t.slot l i).armedTag = none ∧ t.status = s.status)
      ∧ (sl.state ∈ [SlotState.idle, .sent, .failed, .aborted] → t.slot l i = sl ∧ t.status = s.status)

/-- ABORT_ALL: every slot of the link is aborted as by ABORT, its send queue and its poll request queue are emptied, the poll
sender's ASK is dropped or, on the wire, marked, and every poll entry that waited in the request queue, or whose ASK stood in
the send queue, is UNSENT with the rest of its record kept. Any other entry is as it was. -/
def Obligations.AbortAllEmptiesLink : Prop :=
  ∀ (l : LinkId) (id : TransferId) (a : Addr) (s : State), s.takesNow = true →
    s.plan.windowAddr (.post l) 4 = some a → s.sees a (.abortAll l) = true →
    ∃ t, exec (.abortAll l id) s = .next t
      ∧ t.links = s.links ∧ sameDrive s t ∧ sameReceive s t ∧ samePlan s t ∧ otherLinksSame s t l
      ∧ (t.sender l).slots = (s.sender l).slots.map Slot.abort ∧ (t.sender l).queue = [] ∧ t.pollQueue l = []
      ∧ ((∃ i, (s.slot l i).state = .fetching ∨ (s.slot l i).state = .queued) → t.caused .sent = true)
      ∧ (∀ x, (s.sender l).pollAsk = some x →
          (t.sender l).pollAsk = if x.onWire then some { x with abortMark := true } else none)
      ∧ (∀ p, ((s.pollQueue l).contains p = true ∨ ∃ x, (s.sender l).pollAsk = some x ∧ x.entry = p ∧ x.onWire = false) →
          t.pollEntry p = { s.pollEntry p with state := .unsent })
      ∧ (∀ p, (s.pollQueue l).contains p = false → (∀ x, (s.sender l).pollAsk = some x → x.entry = p → x.onWire = true) →
          t.pollEntry p = s.pollEntry p)

/-- SLOT_FETCH_COMPLETE of the fetch the slot waits for: a usable body makes it QUEUED in its place in the queue, where the link
cannot take the head; a body that is not valid makes it FAILED with reason BODY, MEMERR one that does not answer FAILED
with reason MEMORY; an arming ANSWER is ARMED under the Tag fetched. The fetch of an answer to an ASK: a valid body that is
no ASK makes it QUEUED, another makes it FAILED with reason BODY, and MEMERR makes it ARMED again under its Tag, without
cause SENT. -/
def Obligations.FetchCompletionByPurpose : Prop :=
  ∀ (s : State) (nth : Nat) (r : Request) (l : LinkId) (i : SlotId) (n : Nat) (data : List Word), s.running = true →
    s.path.inFlight[nth]? = some r → r.purpose = .fetch l i n → r.isWrite = false → r.beats = data.length →
    (s.slot l i).state = .fetching → (s.slot l i).fetch = some n → (s.link l).canTake = false →
    let sl := s.slot l i
    let c := s.sender l
    let path : Path := { s.path with inFlight := s.path.inFlight.eraseIdx nth }
    (∀ b, sl.purpose ≠ .answer → fetchedBody data = some b → exec (.slotFetchComplete nth .okay data) s = .next
      { s with
        path := path
        senders := update s.senders l fun c =>
          { c with
            slots := update c.slots i fun x => { x with state := .queued, fetch := none, body := some b }
            queue := insertItem c.acceptCount ⟨.slot i, b.priority, sl.acceptance⟩ c.queue } })
    ∧ (sl.purpose ≠ .answer → fetchedBody data = none → ∃ t, exec (.slotFetchComplete nth .okay data) s = .next t
      ∧ t.path = path ∧ (t.slot l i).state = .failed ∧ (t.slot l i).failReason = .body ∧ (t.sender l).queue = c.queue
      ∧ t.caused .sent = true ∧ sameDrive s t ∧ t.links = s.links)
    ∧ (sl.purpose ≠ .answer → ∃ t, exec (.slotFetchComplete nth .other data) s = .next t
      ∧ t.path = path ∧ (t.slot l i).state = .failed ∧ (t.slot l i).failReason = .memory ∧ (t.sender l).queue = c.queue
      ∧ t.caused .sent = true ∧ t.caused .memory = true ∧ t.status.memoryErrors = satInc s.status.memoryErrors
      ∧ sameDrive s t ∧ t.links = s.links)
    ∧ (sl.purpose = .answer → sl.armedTag = none → exec (.slotFetchComplete nth .okay data) s = .next
      { s with
        path := path
        senders := update s.senders l fun c =>
          { c with slots := update c.slots i fun x =>
            { x with
              state := .armed, armedTag := some (fetchedTag data), abortMark := false, fetch := none, body := none } } })
    ∧ (∀ tag, sl.purpose = .answer → sl.armedTag = some tag →
        (∀ b, fetchedBody data = some b → b.kind ≠ .ask → exec (.slotFetchComplete nth .okay data) s = .next
          { s with
            path := path
            senders := update s.senders l fun c =>
              { c with
                slots := update c.slots i fun x => { x with state := .queued, fetch := none, body := some b }
                queue := insertItem c.acceptCount ⟨.slot i, b.priority, sl.acceptance⟩ c.queue } })
        ∧ ((∀ b, fetchedBody data = some b → b.kind = .ask) → ∃ t, exec (.slotFetchComplete nth .okay data) s = .next t
          ∧ t.path = path ∧ (t.slot l i).state = .failed ∧ (t.slot l i).failReason = .body
          ∧ (t.slot l i).armedTag = none ∧ (t.sender l).queue = c.queue ∧ t.caused .sent = true)
        ∧ exec (.slotFetchComplete nth .other data) s = .next
          { s with
            path := path
            senders := update s.senders l fun c =>
              { c with slots := update c.slots i fun x =>
                { x with state := .armed, abortMark := false, fetch := none, body := none } }
            status := StatusUnit.raise { s.status with memoryErrors := satInc s.status.memoryErrors }
              s.plan.attentionMask s.plan.lineMode .memory })

/-- Standing answers: an ASK received good is consumed by the lowest slot ARMED with its Tag, which is then answering with a
fetch of its record submitted at once; with none ARMED and one answering it is merged and counted; with neither it goes on to
the sieves. Alarm requests: accepted in IDLE, SENT, FAILED and ABORTED outside SETUP, with the fetch submitted at once;
otherwise merged and counted; a channel whose settings name no slot makes none. -/
def Obligations.StandingAnswersAndAlarms : Prop :=
  (∀ (s : State) (l : LinkId) (m : Message) (now : Stamp), m.kind = .ask →
      let armed (i : SlotId) : Prop := (s.slot l i).state = .armed ∧ (s.slot l i).armedTag = some m.tag
      let answering (i : SlotId) : Prop := (s.slot l i).state ∈ [SlotState.fetching, .queued, .onWire]
        ∧ (s.slot l i).purpose = .answer ∧ (s.slot l i).armedTag = some m.tag
      (∀ i a, armed i → (∀ j < i, ¬ armed j) → s.plan.windowAddr (.post l) (64 + 32 * i.val) = some a →
        s.routeGood l m now =
          { s with
            senders := update s.senders l fun c =>
              { c with
                slots := update c.slots i fun sl =>
                  { sl with
                    state := .fetching, fetch := some c.fetchSerial, attempts := 0, acceptance := c.acceptCount + 1 }
                acceptCount := c.acceptCount + 1
                fetchSerial := c.fetchSerial + 1 }
            path := { s.path with staged := s.path.staged ++ [⟨.fetch l i (s.sender l).fetchSerial, false, a, 8, []⟩] } })
      ∧ ((∀ i, ¬ armed i) → (∃ i, answering i) →
          s.routeGood l m now = s.modSender l fun c => { c with mergedAsks := satInc c.mergedAsks })
      ∧ ((∀ i, ¬ armed i ∧ ¬ answering i) → s.sieveFor l m = none →
          s.routeGood l m now = s.modRouter l fun q => { q with unrouted := satInc q.unrouted }))
  ∧ (∀ (s : State) (c : ChanId),
        (∀ set l i, s.driveSettings c = some set → set.alarm = some (l, i) →
          let accepted : Prop := (s.slot l i).state ∈ [SlotState.idle, .sent, .failed, .aborted] ∧ (s.link l).mode ≠ .setup
          (∀ a, accepted → s.plan.windowAddr (.post l) (64 + 32 * i.val) = some a →
            s.alarmRequest c =
              { s with
                senders := update s.senders l fun k =>
                  { k with
                    slots := update k.slots i fun sl =>
                      { sl with
                        state := .fetching
                        purpose := .alarm
                        attempts := 0
                        abortMark := false
                        failReason := .none
                        fetch := some k.fetchSerial
                        acceptance := k.acceptCount + 1 }
                    acceptCount := k.acceptCount + 1
                    fetchSerial := k.fetchSerial + 1 }
                path := { s.path with staged := s.path.staged ++
                  [⟨.fetch l i (s.sender l).fetchSerial, false, a, 8, []⟩] } })
          ∧ (¬ accepted → s.alarmRequest c = s.modChan c fun ch => { ch with alarmsMerged := satInc ch.alarmsMerged }))
        ∧ ((s.driveSettings c).bind (·.alarm) = none → s.alarmRequest c = s))

/-- The outcomes of a poll ASK on the wire of a link in RUN. SENT: its entry is WAITING, its ask count one higher, its reply timer
running. LOST, or an error within the retry limit: the ASK rejoins the send queue at its place, an error having counted an
attempt, and the entry is as it was. An error beyond the limit, or either with the abort mark set: the entry is UNSENT.
The outcome of an abandoned ASK changes no entry. A poll sender left with none takes the head of its request queue and
enqueues its ASK. -/
def Obligations.PollAskOutcomes : Prop :=
  ∀ (l : LinkId) (levels : List Level) (s : State) (a : PollAsk), s.running = true → (s.link l).mode = .run →
    (s.link l).pendingMode = none → (s.link l).item.map (·.ref) = some .poll → (s.sender l).pollAsk = some a →
    let limit := (s.linkSettings l).retryLimit
    let timeout := ((s.pollSettings a.entry).map (·.replyTimeout)).getD 0
    let takesNext (t : State) : Prop :=
      (s.pollQueue l = [] → t.sender l = { s.sender l with pollAsk := none })
      ∧ (∀ p ps, s.pollQueue l = p :: ps →
          t.pollQueue l = ps ∧ t.sender l = s.withAsk l p)
    let rejoins (t : State) (attempts : BitVec 8) : Prop :=
      t.poll = s.poll ∧ t.sender l =
        { s.sender l with
          pollAsk := some { a with attempts := attempts, onWire := false }
          queue := insertItem (s.sender l).acceptCount ⟨.poll, a.priority, a.acceptance⟩ (s.sender l).queue }
    let givesUp (t : State) : Prop := t.pollEntry a.entry = { s.pollEntry a.entry with state := .unsent } ∧ takesNext t
    (s.brings l levels .sentOk = true → ∃ t, exec (.messageSent l levels) s = .next t ∧ onlyLink s t l ∧ takesNext t
      ∧ (∀ p, p ≠ a.entry → t.pollEntry p = s.pollEntry p)
      ∧ (a.abandoned = true → t.pollEntry a.entry = s.pollEntry a.entry)
      ∧ (a.abandoned = false → t.pollEntry a.entry =
          { s.pollEntry a.entry with
            state := .waiting
            askCount := satInc (s.pollEntry a.entry).askCount
            replyTimer := some (later s.status.stamp timeout) }))
    ∧ (s.brings l levels .lost = true → ∃ t, exec (.arbitrationLost l levels) s = .next t ∧ onlyLink s t l
      ∧ (a.abandoned = true → t.poll.entries = s.poll.entries ∧ takesNext t)
      ∧ (a.abandoned = false → a.abortMark = false → rejoins t a.attempts)
      ∧ (a.abandoned = false → a.abortMark = true → givesUp t))
    ∧ (s.brings l levels .markEnd = true → ∃ t, exec (.errorMarkEnd l levels) s = .next t ∧ onlyLink s t l
      ∧ (a.abandoned = true → t.poll.entries = s.poll.entries ∧ takesNext t)
      ∧ (a.abandoned = false → a.abortMark = false → (limit = 15 ∨ (satInc a.attempts).toNat ≤ limit) →
          rejoins t (satInc a.attempts))
      ∧ (a.abandoned = false → (a.abortMark = true ∨ (limit ≠ 15 ∧ limit < (satInc a.attempts).toNat)) → givesUp t))

/-! ### Rings -/

/-- RING_BODY_WRITE_COMPLETE: OKAY submits the marker write, one beat of 1 at the entry's start; MEMERR abandons the
entry, counts the error with cause MEMORY, and leaves the Ring Writer idle where no message waits.
RING_MARKER_WRITE_COMPLETE, OKAY: the entry is PENDING and cause RECEIVED is raised; with no message waiting the Ring
Writer is idle, and a message that waits alone for it is taken at the same event, with its body write of 7 full beats from
4 bytes into its entry submitted. -/
def Obligations.RingWritesComplete : Prop :=
  (∀ (s : State) (nth : Nat) (r : Request) (w : Writing), s.running = true → s.path.inFlight[nth]? = some r →
      r.purpose = .ringBody → r.isWrite = true → s.ringWriter.writing = some w →
      let path : Path := { s.path with inFlight := s.path.inFlight.eraseIdx nth }
      (∀ a, s.plan.windowAddr (.gather w.handoff.ring) (32 * w.handoff.entry) = some a →
        exec (.ringBodyWriteComplete nth .okay) s = .next
          { s with
            ringWriter := { s.ringWriter with writing := some { w with marker := true } }
            path := path.join ⟨.ringMarker, true, a, 1, [⟨1, 15⟩]⟩ })
      ∧ ((∀ l, (s.router l).handoff = []) → exec (.ringBodyWriteComplete nth .other) s = .next
          { s with
            ringWriter :=
              { s.ringWriter with
                rings := update s.ringWriter.rings w.handoff.ring fun g => g.abandon w.handoff.entry
                writing := none }
            path := path
            status := StatusUnit.raise { s.status with memoryErrors := satInc s.status.memoryErrors } s.plan.attentionMask
              s.plan.lineMode .memory }))
  ∧ (∀ (s : State) (nth : Nat) (r : Request) (w : Writing), s.running = true → s.path.inFlight[nth]? = some r →
        r.purpose = .ringMarker → r.isWrite = true → s.ringWriter.writing = some w →
        ((∀ l, (s.router l).handoff = []) → exec (.ringMarkerWriteComplete nth .okay) s = .next
            { s with
              ringWriter :=
                { s.ringWriter with
                  rings := update s.ringWriter.rings w.handoff.ring fun g =>
                    { g with
                      conds := g.conds.set w.handoff.entry .pending
                      reserved := g.reserved - 1
                      pending := g.pending + 1 }
                  writing := none }
              path := { s.path with inFlight := s.path.inFlight.eraseIdx nth }
              status := s.status.raise s.plan.attentionMask s.plan.lineMode .received })
        ∧ (∀ l h hs, (s.router l).handoff = h :: hs → h.link = l → (s.router (otherLink l)).handoff = [] →
            ∃ t, exec (.ringMarkerWriteComplete nth .okay) s = .next t ∧ t.caused .received = true
              ∧ t.ringWriter.writing = some ⟨h, false⟩ ∧ t.ringWriter.lastServed = l ∧ (t.router l).handoff = hs
              ∧ sameDrive s t ∧ sameLinks s t
              ∧ ∀ a, s.plan.windowAddr (.gather h.ring) (32 * h.entry + 4) = some a →
                  t.path = Path.join { s.path with inFlight := s.path.inFlight.eraseIdx nth }
                    ⟨.ringBody, true, a, 7, (List.range 7).map fun j => ⟨wordAt h.body j, 15#4⟩⟩))

/-- RELEASE: for an entry not RESERVED it passes, with a notice to the Ring Writer if the entry is PENDING; for a RESERVED
one it is withheld, counted and captured. The ring does not change before the notice is delivered. An entry abandoned
away from the oldest pending index is void: PENDING and released. A release of the oldest pending entry frees it when
no other is released, and in a sound ring frees with it the run of released entries that follows, up to the first that is
not released; one of a later entry is kept until its turn, and one of an entry that is not PENDING changes nothing. -/
def Obligations.ReleasePassesAndFreesInOrder : Prop :=
  (∀ (r : RingId) (e : Fin 64) (id : TransferId) (a : Addr) (s : State), s.takesNow = true →
      e.val < (s.ringSettings r).length → s.plan.windowAddr (.gather r) (32 * e.val) = some a →
      s.sees a (.marker r e.val) = true →
      ((s.ring r).cond e.val = .pending →
        exec (.release r e id) s = .next (s.withEntry (triggerEntry id a 0 [.release r e.val])))
      ∧ ((s.ring r).cond e.val = .free → exec (.release r e id) s = .next (s.withEntry (triggerEntry id a 0 [])))
      ∧ ((s.ring r).cond e.val = .reserved → exec (.release r e id) s = .next (State.withEntry
          { s with
            status := StatusUnit.raise { s.status with withheld := satInc s.status.withheld, lastWithheld := a }
              s.plan.attentionMask s.plan.lineMode .withheld }
          ⟨id, true, a, 1, [.withhold], [], [], []⟩)))
  ∧ (∀ (g : Ring) (i : Nat),
        (i ≠ g.oldest → g.abandon i =
          { g with
            conds := g.conds.set i .pending
            reserved := g.reserved - 1
            pending := g.pending + 1
            released := insertIndex i g.released })
        ∧ (g.cond i = .pending → i = g.oldest → g.released = [] → g.release i =
            { g with
              conds := g.conds.set i .free
              pending := g.pending - 1
              oldest := if i + 1 < g.length then i + 1 else 0 })
        ∧ (g.cond i = .pending → i ≠ g.oldest → g.release i = { g with released := insertIndex i g.released })
        ∧ (g.cond i ≠ .pending → g.release i = g))
  ∧ (∀ (g : Ring) (n : Nat), g.sound = true → g.cond g.oldest = .pending → n < g.length →
        (∀ k < n, g.place (1 + k) ∈ g.released) → g.place (1 + n) ∉ g.released →
        let freed (j : Nat) : Prop := ∃ k ≤ n, j = g.place k
        let g' := g.release g.oldest
        g'.oldest = g.place (1 + n) ∧ g'.pending + (n + 1) = g.pending ∧ g'.head = g.head ∧ g'.reserved = g.reserved
          ∧ g'.length = g.length ∧ g'.overflows = g.overflows
          ∧ (∀ j, (freed j → g'.cond j = .free) ∧ (¬ freed j → g'.cond j = g.cond j))
          ∧ (∀ j, j ∈ g'.released ↔ j ∈ g.released ∧ ¬ freed j))

/-- The rings stay sound (R94 to R96) at every step: counts, head and oldest pending index agree with the entries, released
entries are PENDING and none of them the oldest, and each reserved entry is held by exactly one message on its way. -/
def Obligations.RingsSoundKept : Prop :=
  ∀ s t : State, s.ringsSound = true → step s = .next t → t.ringsSound = true

/-! ### Polled values -/

/-- LATENT_FETCH: of the entries whose words it covers, every ASK entry that neither waits nor is queued, on a link not in
SETUP, is QUEUED with its value as it was; every other entry is as it was. A read of ECHO words alone leaves the drive
channels, the rings, the plan and the Status Unit alone, and on each link the entries newly QUEUED join the poll request queue
in rising order; a poll sender without an ASK takes the head and offers its ASK in the send queue. -/
def Obligations.LatentFetchQueuesCovered : Prop :=
  ∀ (w : Fin 256) (n : Nat) (id : TransferId) (x : Transfer) (s : State), 1 ≤ n → n ≤ 16 → s.takesNow = true →
    readTransfer s.plan (.echo .active) w.val n id = some x →
    ∃ t, exec (.latentFetch w n id) s = .next t
      ∧ (∀ p : PollId,
          ((∃ v, WordRef.echo .active p v ∈ s.refsOf x) → (s.pollMayQueue p).isSome = true →
            t.pollEntry p = { s.pollEntry p with state := .queued })
          ∧ (((∀ v, WordRef.echo .active p v ∉ s.refsOf x) ∨ s.pollMayQueue p = none) → t.pollEntry p = s.pollEntry p))
      ∧ ((∀ r ∈ s.refsOf x, ∃ v p k, r = .echo v p k) →
          sameDrive s t ∧ sameReceive s t ∧ samePlan s t ∧ t.status = s.status
            ∧ ∀ l : LinkId, s.offersPolls t l ((List.finRange 32).filter fun p =>
                s.pollMayQueue p = some l ∧ ∃ v : Fin 8, WordRef.echo .active p v.val ∈ s.refsOf x))

/-- The timers of a poll entry. AUTO_EXPIRY starts its next period and queues the entry where it may be: it joins its link's poll
request queue, and a poll sender without an ASK takes the head and offers its ASK in the send queue; where it may not, nothing
else changes. REPLY_TIMEOUT makes it LATE with cause POLL_LATE and leaves all else. One not due changes nothing (log 2). -/
def Obligations.PollTimersExpire : Prop :=
  ∀ (p : PollId) (s : State), s.running = true →
    (due s.now (s.pollEntry p).autoTimer = true → ∃ t, exec (.autoExpiry p) s = .next t
      ∧ (t.pollEntry p).autoTimer = (s.pollEntry p).autoTimer.map (fun e => later e (s.autoInterval p))
      ∧ (t.pollEntry p).state = (if (s.pollMayQueue p).isSome then .queued else (s.pollEntry p).state)
      ∧ (t.pollEntry p).value = (s.pollEntry p).value ∧ (∀ q, q ≠ p → t.pollEntry q = s.pollEntry q)
      ∧ sameDrive s t ∧ sameReceive s t ∧ samePlan s t ∧ t.path = s.path ∧ t.status = s.status
      ∧ (∀ l, s.pollMayQueue p = some l → s.offersPolls t l [p] ∧ otherLinksSame s t l)
      ∧ (s.pollMayQueue p = none → sameLinks s t ∧ t.poll.queues = s.poll.queues))
    ∧ (due s.now (s.pollEntry p).replyTimer = true → exec (.replyTimeout p) s = .next
        { s with
          poll := { s.poll with entries := update s.poll.entries p fun e => { e with state := .late, replyTimer := none } }
          status := s.status.raise s.plan.attentionMask s.plan.lineMode .pollLate })
    ∧ (due s.now (s.pollEntry p).autoTimer = false → exec (.autoExpiry p) s = .next s)
    ∧ (due s.now (s.pollEntry p).replyTimer = false → exec (.replyTimeout p) s = .next s)
    ∧ (due s.now (s.pollEntry p).staleTimer = false → exec (.stalenessExpiry p) s = .next s)

/-- STALENESS_EXPIRY: the entry's stale flag is set and its timer stops; every guard is judged afresh, a channel moving in a
direction with a guard now unmet stops with reason INTERLOCK for its stop dwell and raises STOPPED, and any other is as
it was. -/
def Obligations.StaleValueStopsUnguarded : Prop :=
  ∀ (p : PollId) (s : State), s.running = true → due s.now (s.pollEntry p).staleTimer = true →
    let u := s.modPoll p fun e => { e with stale := true, staleTimer := none }
    ∃ t, exec (.stalenessExpiry p) s = .next t
      ∧ t.poll = u.poll ∧ t.guards = u.guardResults ∧ t.path = s.path ∧ sameLinks s t ∧ sameReceive s t ∧ samePlan s t
      ∧ ∀ c : ChanId,
        (u.unguarded c = true → (t.chan c).state = .stopping ∧ (t.chan c).motion = none ∧ (t.chan c).duty = 0
          ∧ (t.chan c).stopReason = .interlock ∧ (t.chan c).dwellEnd = some (later s.now (s.stopDwell c))
          ∧ t.caused .stopped = true)
        ∧ (u.unguarded c = false → t.chan c = s.chan c ∧ t.prot c = s.prot c)

/-! ### The drive channels -/

/-- A refused command is recorded with its reason, code, source and stamp, and changes nothing else of any channel. A zone
command: its block is withheld whole with code DENIED, counted and captured at its first word, and not counted in the
channel's counter. One beat of a command block alone presents no command: BAD_WRITE with code 0, withheld likewise. A deck
command: counted in the channel's REFUSED counter and nothing withheld; one shorter than 6 bytes is refused RANGE with its
byte 0, or 0 if it has none, as its code. -/
def Obligations.RefusedCommandIsRecorded : Prop :=
  (∀ (k : CmdCode) (c : ChanId) (id : TransferId) (f : CommandFields) (r : RefuseReason) (s : State),
      s.takesBlock c k id f = true → s.judge c .zone (zoneFields k f) = some r →
      ∃ x, commandTransfer s.plan c k.code id f = some x ∧ (withheldEntry x).code = .denied
        ∧ exec (blockInstr k c id f) s = .next (State.withEntry
          { s with
            chans := update s.chans c fun ch => { ch with lastRefusal := ⟨r, k.code, .zone, s.status.stamp⟩ }
            status := StatusUnit.raise { s.status with withheld := satInc s.status.withheld, lastWithheld := x.start }
              s.plan.attentionMask s.plan.lineMode .withheld }
          (withheldEntry x)))
  ∧ (∀ (x : Transfer) (b : WriteBeat) (c : ChanId) (w : Nat) (s : State), x.wf = true → x.op = .write [b] →
        b.enables ≠ 0 → s.takesNow = true → s.refsOf x = [.command c w] →
        exec (.upstreamTransferTaken x) s = .next (State.withEntry
          { s with
            chans := update s.chans c fun ch => { ch with lastRefusal := ⟨.badWrite, 0, .zone, s.status.stamp⟩ }
            status := StatusUnit.raise { s.status with withheld := satInc s.status.withheld, lastWithheld := x.start }
              s.plan.attentionMask s.plan.lineMode .withheld }
          (withheldEntry x)))
  ∧ (∀ (c : ChanId) (src : CmdSource) (d : DriveCommand) (r : RefuseReason) (s : State),
        (src = .deck0 ∨ src = .deck1) → s.judge c src d = some r →
        s.command c src d = s.modChan c fun ch =>
          { ch with lastRefusal := ⟨r, d.code, src, s.status.stamp⟩, refused := satInc ch.refused })
  ∧ (∀ (c : ChanId) (l : LinkId) (m : Message) (s : State), m.length < 6 →
        s.deckCommand c l m = s.modChan c fun ch =>
          { ch with
            lastRefusal := ⟨.range, if 0 < m.length then m.payload.headD 0 else 0, if l = 0 then .deck0 else .deck1,
              s.status.stamp⟩
            refused := satInc ch.refused })

/-- The checks of a command, in the order of Table 7-6 from BAD_CODE on: the first that holds gives the reason, and with none
the command is accepted. -/
def Obligations.ChecksInOrder : Prop :=
  ∀ (c : ChanId) (src : CmdSource) (d : DriveCommand) (s : State), s.driveSound = true →
    let ch := s.chan c
    let set := s.driveSettings c
    let code (k : CmdCode) : Bool := d.code == k.code
    let move := code .moveOut || code .moveIn || code .goto
    let dir : Option Dir :=
      if code .moveOut || (code .goto && decide (ch.position < d.target)) then some .outward
      else if code .moveIn || (code .goto && decide (d.target < ch.position)) then some .inward
      else none
    let moving := ch.state == .driveOut || ch.state == .driveIn
    let accepted :=
      code .stop || (code .disable && ch.state != .tripped) || (code .enable && ch.state == .safe && set.isSome)
        || (code .clearTrip && ch.state == .tripped)
        || ((code .watchOn || code .watchOff) && (ch.state == .safe || ch.state == .ready))
        || (move && (ch.state == .ready || moving))
    let outside := code .goto && set.any fun k => decide (d.target < k.travelMin) || decide (k.travelMax < d.target)
    let atEnd (e : Dir) : Bool := ch.endActive e || set.any fun k =>
      if e = .outward then decide (k.travelMax ≤ ch.position) else decide (ch.position ≤ k.travelMin)
    let checks : List (Bool × RefuseReason) :=
      [(d.code == 0 || decide (9 < d.code.toNat) || ((code .watchOn || code .watchOff) && c != 0), .badCode),
        ((src == .deck0 || src == .deck1) && (code .enable || code .clearTrip || code .watchOn || code .watchOff),
          .badSource),
        (move && (decide (d.speed < 10) || decide (100 < d.speed) || decide (600 < d.runLimit) || outside), .range),
        (!accepted, .badState),
        (move && moving && src != ch.source, .sourceBusy),
        (moving && dir.any fun e => ch.state != (if e = .outward then ChanState.driveOut else .driveIn), .reverse),
        (move && ch.motion.any fun m => !code (match m.code with | .moveOut => .moveOut | .moveIn => .moveIn | .goto => .goto),
          .badState),
        ((code .enable || code .clearTrip) && s.esl, .eslActive),
        (ch.state == .ready && dir.any atEnd, .atEnd),
        (dir.any fun e => !s.guardsMet c e, .interlock)]
    s.judge c src d = (checks.find? (·.1)).map (·.2)

/-- ENABLE in SAFE, with settings and the line deasserted, makes the channel READY and changes no other channel. -/
def Obligations.EnableMakesReady : Prop :=
  ∀ (c : ChanId) (id : TransferId) (f : CommandFields) (s : State), s.takesBlock c .enable id f = true →
    s.driveSound = true → (s.chan c).state = .safe → (s.driveSettings c).isSome = true → s.esl = false →
    ∃ x, commandTransfer s.plan c 1 id f = some x ∧ exec (.enable c id f) s = .next (State.withEntry
      { s with
        chans := update s.chans c fun ch => { ch with state := .ready, motion := none, duty := 0, dwellEnd := none }
        prots := update s.prots c fun k =>
          { k with onset := none, armed := true, stallExpiry := none, runExpiry := none, holdExpiry := none } } (blockEntry x))

/-- STOP ends a motion with stop reason COMMAND into its stop dwell and without a cause, and in any other state changes
nothing. DISABLE in any state but TRIPPED makes the channel SAFE at once; a motion ends with stop reason DISABLED and
no cause. The last clause says the same of a command from any source, a deck link's among them. -/
def Obligations.StopAndDisableEndMotion : Prop :=
  (∀ (c : ChanId) (id : TransferId) (f : CommandFields) (s : State), s.takesBlock c .stop id f = true →
      s.driveSound = true →
      ∃ x, commandTransfer s.plan c 6 id f = some x
        ∧ ((s.chan c).state = .driveOut ∨ (s.chan c).state = .driveIn → exec (.stop c id f) s = .next (State.withEntry
            { s with
              chans := update s.chans c fun ch =>
                { ch with
                  state := .stopping, motion := none, duty := 0, stopReason := .command
                  dwellEnd := some (later s.status.stamp (s.stopDwell c)) }
              prots := update s.prots c fun k => { k with stallExpiry := none, runExpiry := none, holdExpiry := none } }
            (blockEntry x)))
        ∧ ((s.chan c).state ≠ .driveOut → (s.chan c).state ≠ .driveIn → exec (.stop c id f) s = .next (s.withEntry (blockEntry x))))
  ∧ (∀ (c : ChanId) (id : TransferId) (f : CommandFields) (s : State), s.takesBlock c .disable id f = true →
        s.driveSound = true → (s.chan c).state ≠ .tripped →
        ∃ t, exec (.disable c id f) s = .next t
          ∧ t.chan c =
            { s.chan c with
              state := .safe, motion := none, duty := 0, dwellEnd := none
              stopReason := if (s.chan c).state = .driveOut ∨ (s.chan c).state = .driveIn then .disabled
                else (s.chan c).stopReason }
          ∧ (t.prot c).stallExpiry = none ∧ (t.prot c).runExpiry = none ∧ (t.prot c).holdExpiry = none
          ∧ (∀ d, d ≠ c → t.chan d = s.chan d ∧ t.prot d = s.prot d) ∧ t.guards = t.guardResults ∧ t.esl = s.esl
          ∧ t.status = s.status ∧ sameLinks s t ∧ sameReceive s t ∧ samePlan s t ∧ t.poll = s.poll)
  ∧ (∀ (c : ChanId) (src : CmdSource) (d : DriveCommand) (s : State), s.driveSound = true →
        (cmdOf d.code = some .stop →
          ((s.chan c).state = .driveOut ∨ (s.chan c).state = .driveIn → s.command c src d =
            { s with
              chans := update s.chans c fun ch =>
                { ch with
                  state := .stopping, motion := none, duty := 0, stopReason := .command
                  dwellEnd := some (later s.status.stamp (s.stopDwell c)) }
              prots := update s.prots c fun k => { k with stallExpiry := none, runExpiry := none, holdExpiry := none } })
          ∧ ((s.chan c).state ≠ .driveOut → (s.chan c).state ≠ .driveIn → s.command c src d = s))
        ∧ (cmdOf d.code = some .disable → (s.chan c).state ≠ .tripped →
          let t : State :=
            { s with
              chans := update s.chans c fun ch =>
                { ch with
                  state := .safe, motion := none, duty := 0, dwellEnd := none
                  stopReason := if (s.chan c).state = .driveOut ∨ (s.chan c).state = .driveIn then .disabled
                    else ch.stopReason }
              prots := update s.prots c fun k =>
                { k with onset := none, armed := true, stallExpiry := none, runExpiry := none, holdExpiry := none } }
          s.command c src d = { t with guards := t.guardResults }))

/-- MOVE_OUT, MOVE_IN or GOTO accepted in READY with a direction, from any source: the motion, its outputs and every
measurement start as the settings say, the dead-man hold for a deck source and for no other, and the watch of D0 goes OFF.
A zone command's transfer does just that and passes whole. -/
def Obligations.MoveStartsMotion : Prop :=
  ∀ (k : CmdCode) (m : MotionCode) (c : ChanId) (src : CmdSource) (d : DriveCommand) (dir : Dir) (set : DriveSettings)
      (s : State), k.motion = some m → d.code = k.code → s.driveSound = true → (s.chan c).state = .ready →
    s.judge c src d = none → s.driveSettings c = some set → m.direction d.target (s.chan c).position = some dir →
    (∀ g ∈ s.guardsOf c dir, g.condition ≠ .still c) →
    let t := s.command c src d
    t.chan c =
        { s.chan c with
          state := if dir = .outward then .driveOut else .driveIn
          source := src
          motion := some
            { code := m
              dir := dir
              speed := d.speed
              target := if m = .goto then some d.target else none
              runLimit := if 0 < d.runLimit then d.runLimit else set.runLimit
              startStamp := s.status.stamp
              rampEnd := s.status.stamp + BitVec.ofNat 32 set.rampTime }
          duty := if set.rampTime % 4294967296 = 0 then d.speed else 0
          dwellEnd := none
          stopReason := .none
          lastDir := some dir }
      ∧ t.prot c =
        { s.prot c with
          onset := if set.tripThreshold < (s.chan c).current.toNat then some s.status.stamp else none
          armed := true
          peak := (s.chan c).current
          stallExpiry := if set.rampTime = 0 then some (later s.status.stamp set.stallTime) else none
          runExpiry := some (later s.status.stamp ((if 0 < d.runLimit then d.runLimit else set.runLimit) * 1000))
          holdExpiry := if src = .deck0 ∨ src = .deck1 then some (later s.status.stamp set.holdTime) else none
          watch := if c = 0 then .off else (s.prot c).watch }
      ∧ t.guards = t.guardResults ∧ t.esl = s.esl ∧ t.path = s.path ∧ sameLinks s t ∧ sameReceive s t ∧ samePlan s t
      ∧ t.poll = s.poll
      ∧ (∀ e, e ≠ c → t.chan e = s.chan e ∨ ((t.chan e).state = .stopping ∧ (t.chan e).stopReason = .interlock))
      ∧ (∀ id f, src = .zone → d = zoneFields k f → s.takesBlock c k id f = true →
          ∃ x, commandTransfer s.plan c k.code id f = some x
            ∧ exec (blockInstr k c id f) s = .next (t.withEntry (blockEntry x)))

/-- A motion command accepted while its channel moves in its direction refreshes speed and target, and the duty with them;
the run limit, the measurements and the other channels stay, but a deck source's hold starts again. A GOTO accepted at its
target: a moving channel stops with reason AT_TARGET, and a READY one only records it; the watch of D0 goes OFF. Both from
any source; a zone command's transfer does just that and passes whole. -/
def Obligations.MoveWhileMovingOrAtTarget : Prop :=
  (∀ (k : CmdCode) (m : MotionCode) (c : ChanId) (src : CmdSource) (d : DriveCommand) (dir : Dir) (x : Motion)
      (set : DriveSettings) (s : State), k.motion = some m → d.code = k.code → (s.chan c).motion = some x →
      ((s.chan c).state = .driveOut ∨ (s.chan c).state = .driveIn) → s.judge c src d = none →
      m.direction d.target (s.chan c).position = some dir → s.driveSettings c = some set →
      let x' : Motion := { x with speed := d.speed, target := x.target.map fun _ => d.target }
      let t : State :=
        { s with
          chans := update s.chans c fun ch => { ch with motion := some x', duty := x'.dutyAt s.status.stamp }
          prots := update s.prots c fun p =>
            { p with
              watch := if c = 0 then .off else p.watch
              holdExpiry := if src = .deck0 ∨ src = .deck1 then some (later s.status.stamp set.holdTime)
                else p.holdExpiry } }
      s.command c src d = t
        ∧ (∀ id f, src = .zone → d = zoneFields k f → s.takesBlock c k id f = true →
            ∃ y, commandTransfer s.plan c k.code id f = some y
              ∧ exec (blockInstr k c id f) s = .next (t.withEntry (blockEntry y))))
  ∧ (∀ (c : ChanId) (src : CmdSource) (d : DriveCommand) (s : State), d.code = 5 → s.driveSound = true →
        s.judge c src d = none → d.target = (s.chan c).position →
        let t := s.command c src d
        (t.chan c).stopReason = .atTarget ∧ (t.chan c).position = (s.chan c).position
          ∧ ((s.chan c).state = .ready → t.chan c = { s.chan c with stopReason := .atTarget })
          ∧ ((s.chan c).state = .driveOut ∨ (s.chan c).state = .driveIn →
              (t.chan c).state = .stopping ∧ (t.chan c).motion = none ∧ (t.chan c).duty = 0
                ∧ (t.chan c).dwellEnd = some (later s.status.stamp (s.stopDwell c)) ∧ (t.prot c).holdExpiry = none)
          ∧ (c = 0 → (t.prot c).watch = .off) ∧ (∀ e, e ≠ c → t.chan e = s.chan e ∧ t.prot e = s.prot e)
          ∧ t.guards = s.guards ∧ t.esl = s.esl ∧ t.status = s.status ∧ t.path = s.path ∧ sameLinks s t ∧ sameReceive s t
          ∧ samePlan s t ∧ t.poll = s.poll
          ∧ (∀ id f, src = .zone → d = zoneFields .goto f → s.takesBlock c .goto id f = true →
              ∃ y, commandTransfer s.plan c 5 id f = some y
                ∧ exec (.goto c id f) s = .next (t.withEntry (blockEntry y))))

/-- CLEAR_TRIP in TRIPPED with the line deasserted: the trip record goes and the channel is SAFE. WATCH_ON and WATCH_OFF
on D0 in SAFE or READY: the watch is ON with the creep count 0, or OFF; nothing else changes. -/
def Obligations.ClearTripAndWatchCommands : Prop :=
  (∀ (c : ChanId) (id : TransferId) (f : CommandFields) (s : State), s.takesBlock c .clearTrip id f = true →
      s.driveSound = true → (s.chan c).state = .tripped → s.esl = false →
      ∃ x, commandTransfer s.plan c 7 id f = some x ∧ exec (.clearTrip c id f) s = .next (State.withEntry
        { s with
          chans := update s.chans c fun ch => { ch with state := .safe, motion := none, duty := 0, dwellEnd := none }
          prots := update s.prots c fun k =>
            { k with
              trip := none, onset := none, armed := true, stallExpiry := none, runExpiry := none, holdExpiry := none } }
        (blockEntry x)))
  ∧ (∀ (id : TransferId) (f : CommandFields) (s : State), ((s.chan 0).state = .safe ∨ (s.chan 0).state = .ready) →
        (s.takesBlock 0 .watchOn id f = true → ∃ x, commandTransfer s.plan 0 8 id f = some x
          ∧ exec (.watchOn 0 id f) s = .next (State.withEntry
            { s with prots := update s.prots 0 fun k => { k with watch := .on, creep := 0 } } (blockEntry x)))
        ∧ (s.takesBlock 0 .watchOff id f = true → ∃ x, commandTransfer s.plan 0 9 id f = some x
          ∧ exec (.watchOff 0 id f) s = .next (State.withEntry
            { s with prots := update s.prots 0 fun k => { k with watch := .off } } (blockEntry x))))

/-- RAMP_END and CURRENT_CONVERSION. At the ramp end the duty is the speed and the stall measurement starts from the ramp
end stamp. A conversion is the channel's current; in motion and in STOPPING it raises the peak, and an armed detector
marks its onset above the threshold and forgets it, arming again, at or below it. OVERCURRENT_EVENT in WARN mode: it
is counted with cause CURRENT_WARN, and the detector is disarmed without an onset; nothing else changes. -/
def Obligations.RampCurrentAndWarning : Prop :=
  (∀ (c : ChanId) (v : Current) (s : State), s.running = true →
      (∀ m, (s.chan c).motion = some m → (s.prot c).stallExpiry = none → reached s.now m.rampEnd = true →
        exec (.rampEnd c) s = .next
          { s with
            chans := update s.chans c fun ch => { ch with duty := m.speed }
            prots := update s.prots c fun k => { k with stallExpiry := some (later m.rampEnd (s.stallTime c)) } })
      ∧ ((s.chan c).state ∈ [ChanState.safe, .ready, .tripped] → exec (.currentConversion c v) s = .next
          { s with chans := update s.chans c fun ch => { ch with current := v } })
      ∧ (∀ set, (s.chan c).state ∈ [ChanState.driveOut, .driveIn, .stopping] → s.driveSettings c = some set →
          exec (.currentConversion c v) s = .next
            { s with
              chans := update s.chans c fun ch => { ch with current := v }
              prots := update s.prots c fun k =>
                { k with
                  peak := if k.peak.toNat < v.toNat then v else k.peak
                  onset := if set.tripThreshold < v.toNat then
                      (if k.armed = true ∧ k.onset = none then some s.status.stamp else k.onset)
                    else none
                  armed := if set.tripThreshold < v.toNat then k.armed else true } }))
  ∧ (∀ (c : ChanId) (set : DriveSettings) (s : State), s.running = true → s.overcurrentDue c = true →
        s.driveSettings c = some set → set.tripMode = .warn →
        exec (.overcurrentEvent c) s = .next
          { s with
            prots := update s.prots c fun k => { k with onset := none, armed := false, warnings := satInc k.warnings }
            status := s.status.raise s.plan.attentionMask s.plan.lineMode .currentWarn })

/-- A trip of a moving channel, by over-current in CUT mode, by stall or by run time, and one of a STOPPING channel by over-current:
TRIPPED with every output off and stop reason TRIP, its record as Table 8-2 has it for the state it was in, every
measurement over, cause TRIP. Its alarm request, where its settings name a slot, is made of that state at the same event, with
its fetch submitted or its merging counted, and beside it only the guards are judged afresh: the other channels and the
line stay. -/
def Obligations.TripsCutMotion : Prop :=
  ∀ (c : ChanId) (set : DriveSettings) (s : State), s.running = true → s.driveSound = true →
    ((s.chan c).state = .driveOut ∨ (s.chan c).state = .driveIn ∨ (s.chan c).state = .stopping) →
    s.driveSettings c = some set →
    let trips (t : State) (cause : TripCause) : Prop :=
      let a := (s.trippedBy c cause).alarmRequest c
      t = State.commit { a with guards := a.guardResults }
        ∧ t.chan c =
          { s.chan c with
            state := .tripped, motion := none, duty := 0, dwellEnd := none, stopReason := .trip
            alarmsMerged := (a.chan c).alarmsMerged }
        ∧ (t.prot c).trip = some (s.tripOf c cause)
        ∧ (t.chan c).outputs = (false, false, 0)
        ∧ (t.prot c).onset = none ∧ (t.prot c).armed = true ∧ (t.prot c).stallExpiry = none
        ∧ (t.prot c).runExpiry = none ∧ (t.prot c).holdExpiry = none
        ∧ t.caused .trip = true ∧ t.esl = s.esl ∧ t.guards = t.guardResults
        ∧ (∀ d, d ≠ c → t.chan d = s.chan d ∧ t.prot d = s.prot d)
        ∧ t.links = s.links ∧ sameReceive s t ∧ samePlan s t ∧ t.poll = s.poll
    (set.tripMode = .cut → s.overcurrentDue c = true → ∃ t, exec (.overcurrentEvent c) s = .next t ∧ trips t .overcurrent)
    ∧ (due s.now (s.prot c).stallExpiry = true → ∃ t, exec (.stallExpiry c) s = .next t ∧ trips t .stall)
    ∧ (due s.now (s.prot c).runExpiry = true → ∃ t, exec (.runtimeExpiry c) s = .next t ∧ trips t .runtime)

/-- HOLD_EXPIRY and DWELL_EXPIRY. A hold that runs out stops its motion with reason HOLD_LAPSE and cause STOPPED; a stop dwell
that runs out makes the channel READY. Neither touches another channel. -/
def Obligations.HoldAndDwellExpire : Prop :=
  ∀ (c : ChanId) (s : State), s.running = true → s.driveSound = true →
    (due s.now (s.prot c).holdExpiry = true → exec (.holdExpiry c) s = .next
      { s with
        chans := update s.chans c fun ch =>
          { ch with
            state := .stopping, motion := none, duty := 0, stopReason := .holdLapse
            dwellEnd := some (later s.status.stamp (s.stopDwell c)) }
        prots := update s.prots c fun k => { k with stallExpiry := none, runExpiry := none, holdExpiry := none }
        status := s.status.raise s.plan.attentionMask s.plan.lineMode .stopped })
    ∧ ((s.chan c).state = .stopping → due s.now (s.chan c).dwellEnd = true → ∃ t, exec (.dwellExpiry c) s = .next t
        ∧ t.chan c = { s.chan c with state := .ready, motion := none, duty := 0, dwellEnd := none }
        ∧ (∀ d, d ≠ c → t.chan d = s.chan d ∧ t.prot d = s.prot d) ∧ t.guards = t.guardResults ∧ t.status = s.status
        ∧ t.esl = s.esl ∧ t.path = s.path ∧ sameLinks s t ∧ sameReceive s t ∧ samePlan s t ∧ t.poll = s.poll)

/-- PULSE: the position moves by one in the driven direction, saturating, and a stall measurement that runs starts again.
A motion that thereby reaches its target stops AT_TARGET, and one that reaches a travel limit stops SOFT_LIMIT with
cause STOPPED; any other goes on with nothing else changed. An undriven PULSE on D0 under a watch that is ON: the
creep count rises by 1; above the watch limit the watch is ALARMED, cause WATCH is raised and D0's alarm request is made, and
otherwise it stays ON. -/
def Obligations.PulsesCountDrivenAndUndriven : Prop :=
  (∀ (c : ChanId) (dir : Dir) (s : State), s.running = true → s.driveSound = true → (s.chan c).state.driven = some dir →
      let pos : Int :=
        match dir with
        | .outward => if (s.chan c).position < 2000000000 then (s.chan c).position + 1 else (s.chan c).position
        | .inward => if -2000000000 < (s.chan c).position then (s.chan c).position - 1 else (s.chan c).position
      let past (x : Int) : Bool := if dir = .outward then x ≤ pos else pos ≤ x
      let onTarget : Bool := ((s.chan c).motion.bind (·.target)).any past
      let atLimit : Bool := (s.driveSettings c).any fun k => past (if dir = .outward then k.travelMax else k.travelMin)
      ∃ t, exec (.pulse c) s = .next t ∧ (t.chan c).position = pos
        ∧ (∀ d, d ≠ c → t.chan d = s.chan d ∧ t.prot d = s.prot d) ∧ t.esl = s.esl ∧ t.path = s.path
        ∧ sameLinks s t ∧ sameReceive s t ∧ samePlan s t ∧ t.poll = s.poll ∧ t.guards = s.guards
        ∧ (onTarget = true → (t.chan c).state = .stopping ∧ (t.chan c).stopReason = .atTarget ∧ (t.chan c).duty = 0
            ∧ t.status = s.status)
        ∧ (onTarget = false → atLimit = true → (t.chan c).state = .stopping ∧ (t.chan c).stopReason = .softLimit
            ∧ (t.chan c).duty = 0 ∧ t.caused .stopped = true)
        ∧ (onTarget = false → atLimit = false → t =
            { s with
              chans := update s.chans c fun ch => { ch with position := pos }
              prots := update s.prots c fun k =>
                { k with stallExpiry := k.stallExpiry.map fun _ => later s.status.stamp (s.stallTime c) } }))
  ∧ (∀ (set : DriveSettings) (s : State), s.running = true → s.driveSettings 0 = some set →
        ((s.chan 0).state = .safe ∨ (s.chan 0).state = .ready ∨ (s.chan 0).state = .tripped) → (s.prot 0).watch = .on →
        ∃ t, exec (.pulse 0) s = .next t ∧ (t.prot 0).creep = satInc (s.prot 0).creep
          ∧ (set.watchLimit < (satInc (s.prot 0).creep).toNat →
              let a := s.alarmRequest 0
              (t.prot 0).watch = .alarmed ∧ t.caused .watch = true ∧ t.senders = a.senders
                ∧ t.path = (State.commit a).path
                ∧ t.chan 0 =
                  { s.chan 0 with
                    position := countPulse set.restDir (s.chan 0).position
                    alarmsMerged := (a.chan 0).alarmsMerged })
          ∧ ((satInc (s.prot 0).creep).toNat ≤ set.watchLimit → (t.prot 0).watch = .on ∧ t.status = s.status
              ∧ sameLinks s t ∧ t.path = s.path
              ∧ t.chan 0 = { s.chan 0 with position := countPulse set.restDir (s.chan 0).position })
          ∧ (∀ d, d ≠ 0 → t.chan d = s.chan d ∧ t.prot d = s.prot d) ∧ t.guards = s.guards ∧ t.esl = s.esl
          ∧ t.links = s.links ∧ sameReceive s t ∧ samePlan s t ∧ t.poll = s.poll)

/-- END_SWITCH_CHANGE: the level is recorded, and the IN switch becoming active sets the position to the travel minimum. The switch
of the driven direction becoming active stops the motion with reason END; a re-reference in DRIVE_OUT that puts the position at
or past a target stops it AT_TARGET, and at or past the travel maximum SOFT_LIMIT; END and SOFT_LIMIT raise STOPPED. Every guard
is judged afresh, and a channel moving against one stops with reason INTERLOCK. Nothing else changes: a channel that none of
this stops keeps its record but for the level and the re-reference. A level already held changes nothing (log 2). -/
def Obligations.EndSwitchStopsMotion : Prop :=
  ∀ (c : ChanId) (which : Dir) (active : Bool) (s : State), s.running = true →
    ((s.chan c).endActive which = active → exec (.endSwitchChange c which active) s = .next s)
    ∧ ((s.chan c).endActive which ≠ active →
      let ch := s.chan c
      let pos : Int := if which = .inward ∧ active = true then s.reference c else ch.position
      let read : State := s.modChan c fun ch =>
        { ch with
          endOut := if which = .outward then active else ch.endOut
          endIn := if which = .inward then active else ch.endIn
          position := pos }
      let reason : Option StopReason :=
        if active = true ∧ ch.state.driven = some which then some .end_
        else if active = true ∧ which = .inward ∧ ch.state = .driveOut then
          if (ch.motion.bind (·.target)).any (· ≤ pos) then some .atTarget
          else if (s.driveSettings c).any (·.travelMax ≤ pos) then some .softLimit
          else none
        else none
      ∃ t, exec (.endSwitchChange c which active) s = .next t
      ∧ (t.chan c).endActive which = active
      ∧ (∀ o, o ≠ which → (t.chan c).endActive o = ch.endActive o)
      ∧ (t.chan c).position = pos
      ∧ (let stops (d : ChanId) (r : StopReason) : Prop :=
          t.chan d =
              { read.chan d with
                state := .stopping, motion := none, duty := 0, stopReason := r
                dwellEnd := some (later s.status.stamp (s.stopDwell d)) }
            ∧ t.prot d = { s.prot d with stallExpiry := none, runExpiry := none, holdExpiry := none }
            ∧ (r ≠ .atTarget → t.caused .stopped = true)
        (∀ r, reason = some r → stops c r)
          ∧ ∀ d, d ≠ c ∨ reason = none →
            (read.unguarded d = true → stops d .interlock)
              ∧ (read.unguarded d = false → t.chan d = read.chan d ∧ t.prot d = s.prot d))
      ∧ (reason = none ∨ reason = some .atTarget → (∀ d, read.unguarded d = false) → t.status = s.status)
      ∧ statusOnlyRaised s t ∧ t.guards = t.guardResults ∧ t.esl = s.esl ∧ t.path = s.path ∧ sameLinks s t
      ∧ sameReceive s t ∧ samePlan s t ∧ t.poll = s.poll)

/-- ESL_ASSERTION trips every channel that is READY, moving or STOPPING, with every output off, stop reason TRIP and every
measurement over, and, where the drive channels are sound, the record of Table 8-2 for the state it was in; each makes its
alarm request at the event, in an order that is free (log 17). A SAFE channel does not change, and a TRIPPED one only counts
the event in its record. An assertion while asserted is out of place (log 2), and ESL_RELEASE changes only the line. -/
def Obligations.EslTripsEveryChannel : Prop :=
  ∀ s : State, s.running = true →
    (s.esl = false → ∃ t, exec .eslAssertion s = .next t ∧ t.esl = true
      ∧ (∀ c, (s.chan c).state = .safe → t.chan c = s.chan c ∧ t.prot c = s.prot c)
      ∧ (∀ c, (s.chan c).state = .tripped →
          t.chan c = s.chan c
            ∧ t.prot c = { s.prot c with trip := (s.prot c).trip.map fun r => { r with later := satInc r.later } })
      ∧ (∃ order : List ChanId, order.Perm (List.finRange 3) ∧
          let a : State :=
            (order.filter fun c => (s.chan c).state ≠ .safe ∧ (s.chan c).state ≠ .tripped).foldl State.alarmRequest s
          t.senders = a.senders ∧ t.path = (State.commit a).path
            ∧ ∀ c, (s.chan c).state ≠ .safe → (s.chan c).state ≠ .tripped →
              t.chan c =
                  { s.chan c with
                    state := .tripped, motion := none, duty := 0, dwellEnd := none, stopReason := .trip
                    alarmsMerged := (a.chan c).alarmsMerged }
                ∧ (t.prot c).trip.map (·.cause) = some .esl ∧ t.caused .trip = true
                ∧ (s.driveSound = true → t.prot c = ((s.trippedBy c .esl).prot c))
                ∧ (t.chan c).outputs = (false, false, 0))
      ∧ (s.driveSound = true → t.guards = t.guardResults)
      ∧ statusOnlyRaised s t ∧ t.links = s.links ∧ sameReceive s t ∧ samePlan s t ∧ t.poll = s.poll)
    ∧ (s.esl = true → exec .eslAssertion s = .next s)
    ∧ exec .eslRelease s = .next { s with esl := false }

/-- The drive channels stay sound: whatever the command, records agree with states, the emergency stop line holds, and no
channel moves against a guard. So the motor outputs are those of the state: the OUT line on in DRIVE_OUT alone, the IN line in
DRIVE_IN alone, the enable line with the duty in these two and off otherwise; all off while the emergency stop line is
asserted or RESET_N is, and no direction line on with a guard of that direction unmet. -/
def Obligations.DriveSoundKept : Prop :=
  ∀ s t : State, s.driveSound = true → step s = .next t → t.driveSound = true
    ∧ ∀ c : ChanId,
      let ch := t.chan c
      (ch.state = .driveOut → ch.outputs = (true, false, ch.duty))
        ∧ (ch.state = .driveIn → ch.outputs = (false, true, ch.duty))
        ∧ (ch.state ≠ .driveOut → ch.state ≠ .driveIn → ch.outputs = (false, false, 0) ∧ ch.duty = 0)
        ∧ (t.esl = true ∨ t.inReset = true → ch.outputs = (false, false, 0))
        ∧ (t.guardsMet c .outward = false → ch.outputs.1 = false)
        ∧ (t.guardsMet c .inward = false → ch.outputs.2.1 = false)

/-! ### Status, attention and the Repeater -/

/-- TAKE: the snapshot holds what the covered words present; every take counter in them is then 0, every other counter
and, where its word is not covered, the cause set are as they were; where it is, the causes taken are clear. -/
def Obligations.TakeClearsWhatItReturns : Prop :=
  ∀ (w : Fin 128) (n : Nat) (id : TransferId) (x : Transfer) (s : State), 1 ≤ n → n ≤ 16 → s.takesNow = true →
    readTransfer s.plan (.live .active) w.val n id = some x → (∀ r ∈ s.refsOf x, ∃ k, r = .live .active k) →
    let covered (k : Nat) : Prop := WordRef.live .active k ∈ s.refsOf x
    ∃ t e, exec (.take w n id) s = .next t ∧ t.path = (s.withEntry e).path
      ∧ e.id = id ∧ e.isWrite = false ∧ e.snapshot = (s.refsOf x).map s.present
      ∧ (∀ k : TakeCounter, (covered k.liveWord → k.get t = 0) ∧ (¬ covered k.liveWord → k.get t = k.get s))
      ∧ (covered 3 → t.status.causes = 0) ∧ (¬ covered 3 → t.status.causes = s.status.causes)
      ∧ t.status.stamp = s.status.stamp ∧ t.status.lastWithheld = s.status.lastWithheld
      ∧ t.esl = s.esl ∧ t.guards = s.guards ∧ t.poll = s.poll ∧ t.repeater = s.repeater ∧ samePlan s t
      ∧ ∀ c, (t.chan c).state = (s.chan c).state ∧ (t.prot c).trip = (s.prot c).trip

/-- The line ATTN: in LEVEL mode asserted while a cause that is set is masked, in PULSE mode while a pulse is asserted, and
deasserted while RESET_N is asserted; so a masked cause raised in LEVEL mode asserts it. A plan that comes into force judges it
by the new mask and mode: in LEVEL mode by the causes as they are set; a change of mode ends every pulse, owed ones too,
and with the mode unchanged they are kept. A cause raised in PULSE mode that was clear and is masked begins a pulse, or is owed one while the line is busy with
one; in LEVEL mode, and for a cause already set, no pulse comes of it. The cause is set either way.
ATTENTION_PULSE_END and ATTENTION_GAP_END: an asserted pulse is followed by its deasserted time, and that by an owed
pulse or, with none owed, by the idle line; nothing else changes. -/
def Obligations.AttentionPulsesBeginAndFollow : Prop :=
  (∀ (u : StatusUnit) (mask : BitVec 12) (mode : LineMode) (c : Cause),
      (u.raise mask mode c).causes = u.causes ||| c.bit
      ∧ (mode = .pulse → u.causes &&& c.bit = 0 → mask &&& c.bit ≠ 0 →
          (u.pulse = .idle → (u.raise mask mode c).pulse = .asserted ∧ (u.raise mask mode c).pulsesOwed = u.pulsesOwed)
          ∧ (u.pulse ≠ .idle → (u.raise mask mode c).pulse = u.pulse
              ∧ (u.raise mask mode c).pulsesOwed = satInc u.pulsesOwed))
      ∧ (mode = .level ∨ u.causes &&& c.bit ≠ 0 ∨ mask &&& c.bit = 0 →
          (u.raise mask mode c).pulse = u.pulse ∧ (u.raise mask mode c).pulsesOwed = u.pulsesOwed))
  ∧ (∀ s : State, s.running = true →
        (s.status.pulse = .asserted → exec .attentionPulseEnd s = .next { s with status := { s.status with pulse := .deasserted } })
        ∧ (s.status.pulse = .deasserted → s.status.pulsesOwed = 0 →
            exec .attentionGapEnd s = .next { s with status := { s.status with pulse := .idle } })
        ∧ (s.status.pulse = .deasserted → s.status.pulsesOwed ≠ 0 → exec .attentionGapEnd s = .next
            { s with status := { s.status with pulse := .asserted, pulsesOwed := s.status.pulsesOwed - 1 } }))
  ∧ (∀ s : State, s.attention = true ↔ s.inReset = false
        ∧ ((s.plan.lineMode = .level ∧ ∃ c : Cause, s.caused c = true ∧ s.plan.attentionMask &&& c.bit ≠ 0)
          ∨ (s.plan.lineMode = .pulse ∧ s.status.pulse = .asserted)))
  ∧ (∀ (s : State) (c : Cause), s.inReset = false → s.plan.lineMode = .level → s.plan.attentionMask &&& c.bit ≠ 0 →
        (s.raise c).attention = true)
  ∧ (∀ (s : State) (q : Plan), s.inReset = false →
        let t := s.switchPlan q
        t.status.causes = s.status.causes
          ∧ (q.lineMode = .level →
              (t.attention = true ↔ ∃ c : Cause, s.caused c = true ∧ q.attentionMask &&& c.bit ≠ 0))
          ∧ (s.plan.lineMode = .level → q.lineMode = .pulse → t.attention = false)
          ∧ (s.plan.lineMode ≠ q.lineMode → t.status.pulse = .idle ∧ t.status.pulsesOwed = 0)
          ∧ (s.plan.lineMode = q.lineMode →
              t.status.pulse = s.status.pulse ∧ t.status.pulsesOwed = s.status.pulsesOwed))

/-- REPEATER_PERIOD_EXPIRY: the next period begins at the expiry. While CYCLING one cycle is owed and REPEATER LATE counts;
from IDLE a cycle begins with the first source, and with no source in use it ends at once. A first source that is a memory
range has its covering words read, in one read of up to 16 beats or in one of 16 and one of the rest. -/
def Obligations.RepeaterPeriodBeginsCycle : Prop :=
  ∀ (s : State) (e : Stamp), s.running = true → s.repeater.timer = some e → reached s.now e = true →
    let next := later e s.plan.repeater.period
    (s.repeater.cycle = .cycling → exec .repeaterPeriodExpiry s = .next
      { s with
        repeater := { s.repeater with timer := some next, owed := true }
        status := { s.status with repeaterLate := satInc s.status.repeaterLate } })
    ∧ (s.repeater.cycle = .idle → s.plan.repeater.sources = [] → exec .repeaterPeriodExpiry s = .next
        { s with repeater := { s.repeater with timer := some next, position := 0 } })
    ∧ (∀ p ps, s.repeater.cycle = .idle → s.plan.repeater.sources = .presented p :: ps → s.repeater.finishing = none →
        exec .repeaterPeriodExpiry s = .next
          { s with repeater :=
            { s.repeater with
              timer := some next
              cycle := .cycling
              position := 0
              frame := .sending ⟨s.plan.repeater.rate, frameBytes s.repeater.number 0 false (s.recordBytes p), 0⟩
              number := s.repeater.number + 1 } })
    ∧ (∀ start len ps, s.repeater.cycle = .idle → s.plan.repeater.sources = .memory start len :: ps →
        let g := s.repeater.gatherSerial
        let reads := rangeReads g start len
        exec .repeaterPeriodExpiry s = .next
          { s with
            path := reads.foldl Path.join s.path
            repeater :=
              { s.repeater with
                timer := some next
                cycle := .cycling
                position := 0
                frame := .awaiting g (reads.map fun r => ⟨r.beats, none, false⟩)
                gatherSerial := g + 1 } })

/-- The last read of a frame completes: with every read OKAY the frame goes out with the bytes cut from them, and with any
answered MEMERR with the MEMERR flag and no data; the frame number rises by 1. Of a frame of two reads the first to
complete, whichever of them it is, is only recorded, and the other then sends the frame with the words of both in address
order. -/
def Obligations.LastRangeReadSendsFrame : Prop :=
  (∀ (s : State) (nth : Nat) (r : Request) (g : Nat) (data : List Word) (start : Addr) (len : Nat), s.running = true →
      s.path.inFlight[nth]? = some r → r.purpose = .repeaterRead g 0 → r.isWrite = false → r.beats = data.length →
      s.repeater.frame = .awaiting g [⟨r.beats, none, false⟩] → s.repeater.finishing = none →
      s.plan.repeater.sources[s.repeater.position]? = some (.memory start len) →
      let path : Path := { s.path with inFlight := s.path.inFlight.eraseIdx nth }
      let bytes := ((data.flatMap bytesOf).drop (start.toNat % 4)).take len
      exec (.repeaterReadComplete nth .okay data) s = .next
          { s with
            path := path
            repeater := { s.repeater with
              frame := .sending ⟨s.plan.repeater.rate, frameBytes s.repeater.number s.repeater.position false bytes, 0⟩
              number := s.repeater.number + 1 } }
        ∧ exec (.repeaterReadComplete nth .other data) s = .next
          { s with
            path := path
            status := StatusUnit.raise { s.status with memoryErrors := satInc s.status.memoryErrors } s.plan.attentionMask
              s.plan.lineMode .memory
            repeater := { s.repeater with
              frame := .sending ⟨s.plan.repeater.rate, frameBytes s.repeater.number s.repeater.position true [], 0⟩
              number := s.repeater.number + 1 } })
  ∧ (∀ (s : State) (nth : Nat) (r : Request) (g n : Nat) (data : List Word) (start : Addr) (len : Nat)
        (other : Option (List Word)), s.running = true →
        s.path.inFlight[nth]? = some r → r.isWrite = false → r.beats = data.length → s.repeater.finishing = none →
        s.plan.repeater.sources[s.repeater.position]? = some (.memory start len) →
        let path : Path := { s.path with inFlight := s.path.inFlight.eraseIdx nth }
        let failed : StatusUnit :=
          StatusUnit.raise { s.status with memoryErrors := satInc s.status.memoryErrors } s.plan.attentionMask
            s.plan.lineMode .memory
        let okay (f : Repeater) : Prop :=
          exec (.repeaterReadComplete nth .okay data) s = .next { s with path := path, repeater := f }
        let memerr (f : Repeater) : Prop :=
          exec (.repeaterReadComplete nth .other data) s = .next { s with path := path, status := failed, repeater := f }
        let waits (a b : FramePart) : Repeater := { s.repeater with frame := .awaiting g [a, b] }
        let send (b : Bool) (bs : List Byte) : Repeater :=
          { s.repeater with
            frame := .sending ⟨s.plan.repeater.rate, frameBytes s.repeater.number s.repeater.position b bs, 0⟩
            number := s.repeater.number + 1 }
        let cut (ws : List Word) : List Byte := ((ws.flatMap bytesOf).drop (start.toNat % 4)).take len
        (r.purpose = .repeaterRead g 0 →
          (s.repeater.frame = .awaiting g [⟨16, none, false⟩, ⟨n, none, false⟩] →
            okay (waits ⟨16, some data, true⟩ ⟨n, none, false⟩) ∧ memerr (waits ⟨16, none, true⟩ ⟨n, none, false⟩))
          ∧ (s.repeater.frame = .awaiting g [⟨16, none, false⟩, ⟨n, other, true⟩] →
            (∀ ws, other = some ws → okay (send false (cut (data ++ ws))))
              ∧ (other = none → okay (send true [])) ∧ memerr (send true [])))
        ∧ (r.purpose = .repeaterRead g 1 →
          (s.repeater.frame = .awaiting g [⟨16, none, false⟩, ⟨n, none, false⟩] →
            okay (waits ⟨16, none, false⟩ ⟨n, some data, true⟩) ∧ memerr (waits ⟨16, none, false⟩ ⟨n, none, true⟩))
          ∧ (s.repeater.frame = .awaiting g [⟨16, other, true⟩, ⟨n, none, false⟩] →
            (∀ ws, other = some ws → okay (send false (cut (ws ++ data))))
              ∧ (other = none → okay (send true [])) ∧ memerr (send true []))))

/-- FRAME_SENT: the next source becomes due; after the last the Repeater is IDLE, or begins the cycle it owes. A presented
record goes out at once, and a memory range has its covering words read. FINISHING_FRAME_SENT: a frame that waits for it goes
out with the rate of the plan in force and takes the frame number; with none held only the finishing frame goes. That both
hold for a frame still on the line, whatever bit-times of it remain, is the model's choice (log 16). -/
def Obligations.FramesFollowEachOther : Prop :=
  (∀ (s : State) (f : SendingFrame), s.running = true → s.repeater.frame = .sending f →
      let g := s.repeater.gatherSerial
      let shown (k : Nat) (p : Presented) : Repeater :=
        { s.repeater with
          position := k
          frame := .sending ⟨s.plan.repeater.rate, frameBytes s.repeater.number k false (s.recordBytes p), 0⟩
          number := s.repeater.number + 1 }
      let gathers (k : Nat) (reads : List Request) : Repeater :=
        { s.repeater with
          position := k
          frame := .awaiting g (reads.map fun r => ⟨r.beats, none, false⟩)
          gatherSerial := g + 1 }
      (∀ p, s.plan.repeater.sources[s.repeater.position + 1]? = some (.presented p) → s.repeater.finishing = none →
        exec .frameSent s = .next { s with repeater := shown (s.repeater.position + 1) p })
      ∧ (∀ start len, s.plan.repeater.sources[s.repeater.position + 1]? = some (.memory start len) →
          let reads := rangeReads g start len
          exec .frameSent s = .next
            { s with path := reads.foldl Path.join s.path, repeater := gathers (s.repeater.position + 1) reads })
      ∧ (s.plan.repeater.sources.length ≤ s.repeater.position + 1 → s.repeater.owed = false →
          exec .frameSent s = .next { s with repeater := { s.repeater with frame := .none, cycle := .idle } })
      ∧ (s.plan.repeater.sources.length ≤ s.repeater.position + 1 → s.repeater.owed = true →
          (∀ p ps, s.plan.repeater.sources = .presented p :: ps → s.repeater.finishing = none →
            exec .frameSent s = .next { s with repeater := { shown 0 p with owed := false, cycle := .cycling } })
          ∧ (∀ start len ps, s.plan.repeater.sources = .memory start len :: ps →
              let reads := rangeReads g start len
              exec .frameSent s = .next
                { s with
                  path := reads.foldl Path.join s.path
                  repeater := { gathers 0 reads with owed := false, cycle := .cycling } })))
  ∧ (∀ (s : State) (f : SendingFrame), s.running = true → s.repeater.finishing = some f →
        ((∀ b bs, s.repeater.frame ≠ .held b bs) → exec .finishingFrameSent s = .next
          { s with repeater := { s.repeater with finishing := none } })
        ∧ (∀ b bs, s.repeater.frame = .held b bs → exec .finishingFrameSent s = .next
            { s with repeater :=
              { s.repeater with
                finishing := none
                frame := .sending ⟨s.plan.repeater.rate, frameBytes s.repeater.number s.repeater.position b bs, 0⟩
                number := s.repeater.number + 1 } }))

/-- HELM_TX. A frame's bytes run from 7EH to the checksum, 6 more than its data, and those from the frame number on sum to 0
modulo 256. A frame that begins gives at each bit-time the next of its levels, each byte as a low start bit, its bits least
significant first and a high stop bit, and high after the last, and has no byte left after 10 bit-times for each. With no
command waiting a step is one bit-time of the frame on the line and changes nothing else (a bit-time as the idle step is
the model's choice, log 3); the line has that frame's level, and is high with none and after START_RESET. -/
def Obligations.HelmLineSendsFrames : Prop :=
  (∀ (number : BitVec 8) (index : Nat) (memerr : Bool) (data : List Byte),
      let bs := frameBytes number index memerr data
      bs.length = 6 + data.length ∧ bs.head? = some 0x7E ∧ bs.tail.foldl (· + ·) 0 = 0)
  ∧ (∀ (f : SendingFrame) (n : Nat), f.bit = 0 →
      let levels := f.bytes.flatMap fun b =>
        [false, b.getLsbD 0, b.getLsbD 1, b.getLsbD 2, b.getLsbD 3, b.getLsbD 4, b.getLsbD 5, b.getLsbD 6, b.getLsbD 7, true]
      (SendingFrame.bitTime^[n] f).level = levels.getD n true
        ∧ (SendingFrame.bitTime^[10 * f.bytes.length] f).bytes = [] ∧ (SendingFrame.bitTime^[n] f).rate = f.rate)
  ∧ (∀ s : State, s.pending = [] → s.inReset = false →
      (s.repeater.finishing = none → (∀ f, s.repeater.frame ≠ .sending f) → step s = .next s ∧ s.helmTx = true)
      ∧ (∀ f, s.repeater.finishing = some f → s.helmTx = f.level
          ∧ step s = .next { s with repeater := { s.repeater with finishing := some f.bitTime } })
      ∧ (∀ f, s.repeater.finishing = none → s.repeater.frame = .sending f → s.helmTx = f.level
          ∧ step s = .next { s with repeater := { s.repeater with frame := .sending f.bitTime } }))
  ∧ (∀ (planSel : BitVec 4) (s t : State), exec (.startReset planSel) s = .next t → t.helmTx = true)
end

