-- ==== Sys2Proof/Laws/State.lean ====
section
/-! SUPPORT. Reading a table after it has been changed, and what each update of State leaves as it was. -/

namespace Sys2Proof

@[simp] theorem look_update_self {α : Type} {n : Nat} (v : Vector α n) (i : Fin n) (f : α → α) :
    look (update v i f) i = f (look v i) := by
  simp [look, update]

theorem look_update_of_ne {α : Type} {n : Nat} (v : Vector α n) {i j : Fin n} (f : α → α) (h : i ≠ j) :
    look (update v i f) j = look v j := by
  have h' : i.val ≠ j.val := fun e => h (Fin.ext e)
  simp [look, update, h']

theorem look_update {α : Type} {n : Nat} (v : Vector α n) (i j : Fin n) (f : α → α) :
    look (update v i f) j = if i = j then f (look v j) else look v j := by
  by_cases h : i = j
  · subst h; simp
  · simp [h, look_update_of_ne v f h]

@[simp] theorem look_updateAll {α β : Type} {n : Nat} (v : Vector α n) (f : Fin n → α → β) (i : Fin n) :
    look (updateAll v f) i = f i (look v i) := by
  simp [look, updateAll]

@[simp] theorem look_map {α β : Type} {n : Nat} (v : Vector α n) (f : α → β) (i : Fin n) :
    look (v.map f) i = f (look v i) := by
  simp [look]

@[simp] theorem look_replicate {α : Type} {n : Nat} (a : α) (i : Fin n) : look (Vector.replicate n a) i = a := by
  simp [look]

@[simp] theorem look_ofFn {α : Type} {n : Nat} (f : Fin n → α) (i : Fin n) : look (Vector.ofFn f) i = f i := by
  simp [look]

/-- Two tables that read alike everywhere are equal. -/
theorem look_ext {α : Type} {n : Nat} {v w : Vector α n} (h : ∀ i, look v i = look w i) : v = w := by
  apply Vector.ext
  intro i hi
  exact h ⟨i, hi⟩

end Sys2Proof

namespace Sys2Proof.Machine

@[simp] theorem State.modLink_pending (s : State) (l : LinkId) (f : LinkCtl → LinkCtl) : (s.modLink l f).pending = s.pending := rfl
@[simp] theorem State.modLink_inReset (s : State) (l : LinkId) (f : LinkCtl → LinkCtl) : (s.modLink l f).inReset = s.inReset := rfl
@[simp] theorem State.modLink_planSel (s : State) (l : LinkId) (f : LinkCtl → LinkCtl) : (s.modLink l f).planSel = s.planSel := rfl
@[simp] theorem State.modLink_path (s : State) (l : LinkId) (f : LinkCtl → LinkCtl) : (s.modLink l f).path = s.path := rfl
@[simp] theorem State.modLink_loader (s : State) (l : LinkId) (f : LinkCtl → LinkCtl) : (s.modLink l f).loader = s.loader := rfl
@[simp] theorem State.modLink_senders (s : State) (l : LinkId) (f : LinkCtl → LinkCtl) : (s.modLink l f).senders = s.senders := rfl
@[simp] theorem State.modLink_routers (s : State) (l : LinkId) (f : LinkCtl → LinkCtl) : (s.modLink l f).routers = s.routers := rfl
@[simp] theorem State.modLink_ringWriter (s : State) (l : LinkId) (f : LinkCtl → LinkCtl) : (s.modLink l f).ringWriter = s.ringWriter := rfl
@[simp] theorem State.modLink_poll (s : State) (l : LinkId) (f : LinkCtl → LinkCtl) : (s.modLink l f).poll = s.poll := rfl
@[simp] theorem State.modLink_chans (s : State) (l : LinkId) (f : LinkCtl → LinkCtl) : (s.modLink l f).chans = s.chans := rfl
@[simp] theorem State.modLink_prots (s : State) (l : LinkId) (f : LinkCtl → LinkCtl) : (s.modLink l f).prots = s.prots := rfl
@[simp] theorem State.modLink_guards (s : State) (l : LinkId) (f : LinkCtl → LinkCtl) : (s.modLink l f).guards = s.guards := rfl
@[simp] theorem State.modLink_esl (s : State) (l : LinkId) (f : LinkCtl → LinkCtl) : (s.modLink l f).esl = s.esl := rfl
@[simp] theorem State.modLink_status (s : State) (l : LinkId) (f : LinkCtl → LinkCtl) : (s.modLink l f).status = s.status := rfl
@[simp] theorem State.modLink_repeater (s : State) (l : LinkId) (f : LinkCtl → LinkCtl) : (s.modLink l f).repeater = s.repeater := rfl
@[simp] theorem State.modLink_freeCount (s : State) (l : LinkId) (f : LinkCtl → LinkCtl) : (s.modLink l f).freeCount = s.freeCount := rfl

@[simp] theorem State.modSender_pending (s : State) (l : LinkId) (f : SendCtl → SendCtl) : (s.modSender l f).pending = s.pending := rfl
@[simp] theorem State.modSender_inReset (s : State) (l : LinkId) (f : SendCtl → SendCtl) : (s.modSender l f).inReset = s.inReset := rfl
@[simp] theorem State.modSender_planSel (s : State) (l : LinkId) (f : SendCtl → SendCtl) : (s.modSender l f).planSel = s.planSel := rfl
@[simp] theorem State.modSender_path (s : State) (l : LinkId) (f : SendCtl → SendCtl) : (s.modSender l f).path = s.path := rfl
@[simp] theorem State.modSender_loader (s : State) (l : LinkId) (f : SendCtl → SendCtl) : (s.modSender l f).loader = s.loader := rfl
@[simp] theorem State.modSender_links (s : State) (l : LinkId) (f : SendCtl → SendCtl) : (s.modSender l f).links = s.links := rfl
@[simp] theorem State.modSender_routers (s : State) (l : LinkId) (f : SendCtl → SendCtl) : (s.modSender l f).routers = s.routers := rfl
@[simp] theorem State.modSender_ringWriter (s : State) (l : LinkId) (f : SendCtl → SendCtl) : (s.modSender l f).ringWriter = s.ringWriter := rfl
@[simp] theorem State.modSender_poll (s : State) (l : LinkId) (f : SendCtl → SendCtl) : (s.modSender l f).poll = s.poll := rfl
@[simp] theorem State.modSender_chans (s : State) (l : LinkId) (f : SendCtl → SendCtl) : (s.modSender l f).chans = s.chans := rfl
@[simp] theorem State.modSender_prots (s : State) (l : LinkId) (f : SendCtl → SendCtl) : (s.modSender l f).prots = s.prots := rfl
@[simp] theorem State.modSender_guards (s : State) (l : LinkId) (f : SendCtl → SendCtl) : (s.modSender l f).guards = s.guards := rfl
@[simp] theorem State.modSender_esl (s : State) (l : LinkId) (f : SendCtl → SendCtl) : (s.modSender l f).esl = s.esl := rfl
@[simp] theorem State.modSender_status (s : State) (l : LinkId) (f : SendCtl → SendCtl) : (s.modSender l f).status = s.status := rfl
@[simp] theorem State.modSender_repeater (s : State) (l : LinkId) (f : SendCtl → SendCtl) : (s.modSender l f).repeater = s.repeater := rfl
@[simp] theorem State.modSender_freeCount (s : State) (l : LinkId) (f : SendCtl → SendCtl) : (s.modSender l f).freeCount = s.freeCount := rfl

@[simp] theorem State.modRouter_pending (s : State) (l : LinkId) (f : Router → Router) : (s.modRouter l f).pending = s.pending := rfl
@[simp] theorem State.modRouter_inReset (s : State) (l : LinkId) (f : Router → Router) : (s.modRouter l f).inReset = s.inReset := rfl
@[simp] theorem State.modRouter_planSel (s : State) (l : LinkId) (f : Router → Router) : (s.modRouter l f).planSel = s.planSel := rfl
@[simp] theorem State.modRouter_path (s : State) (l : LinkId) (f : Router → Router) : (s.modRouter l f).path = s.path := rfl
@[simp] theorem State.modRouter_loader (s : State) (l : LinkId) (f : Router → Router) : (s.modRouter l f).loader = s.loader := rfl
@[simp] theorem State.modRouter_links (s : State) (l : LinkId) (f : Router → Router) : (s.modRouter l f).links = s.links := rfl
@[simp] theorem State.modRouter_senders (s : State) (l : LinkId) (f : Router → Router) : (s.modRouter l f).senders = s.senders := rfl
@[simp] theorem State.modRouter_ringWriter (s : State) (l : LinkId) (f : Router → Router) : (s.modRouter l f).ringWriter = s.ringWriter := rfl
@[simp] theorem State.modRouter_poll (s : State) (l : LinkId) (f : Router → Router) : (s.modRouter l f).poll = s.poll := rfl
@[simp] theorem State.modRouter_chans (s : State) (l : LinkId) (f : Router → Router) : (s.modRouter l f).chans = s.chans := rfl
@[simp] theorem State.modRouter_prots (s : State) (l : LinkId) (f : Router → Router) : (s.modRouter l f).prots = s.prots := rfl
@[simp] theorem State.modRouter_guards (s : State) (l : LinkId) (f : Router → Router) : (s.modRouter l f).guards = s.guards := rfl
@[simp] theorem State.modRouter_esl (s : State) (l : LinkId) (f : Router → Router) : (s.modRouter l f).esl = s.esl := rfl
@[simp] theorem State.modRouter_status (s : State) (l : LinkId) (f : Router → Router) : (s.modRouter l f).status = s.status := rfl
@[simp] theorem State.modRouter_repeater (s : State) (l : LinkId) (f : Router → Router) : (s.modRouter l f).repeater = s.repeater := rfl
@[simp] theorem State.modRouter_freeCount (s : State) (l : LinkId) (f : Router → Router) : (s.modRouter l f).freeCount = s.freeCount := rfl

@[simp] theorem State.modSlot_pending (s : State) (l : LinkId) (i : SlotId) (f : Slot → Slot) : (s.modSlot l i f).pending = s.pending := rfl
@[simp] theorem State.modSlot_inReset (s : State) (l : LinkId) (i : SlotId) (f : Slot → Slot) : (s.modSlot l i f).inReset = s.inReset := rfl
@[simp] theorem State.modSlot_planSel (s : State) (l : LinkId) (i : SlotId) (f : Slot → Slot) : (s.modSlot l i f).planSel = s.planSel := rfl
@[simp] theorem State.modSlot_path (s : State) (l : LinkId) (i : SlotId) (f : Slot → Slot) : (s.modSlot l i f).path = s.path := rfl
@[simp] theorem State.modSlot_loader (s : State) (l : LinkId) (i : SlotId) (f : Slot → Slot) : (s.modSlot l i f).loader = s.loader := rfl
@[simp] theorem State.modSlot_links (s : State) (l : LinkId) (i : SlotId) (f : Slot → Slot) : (s.modSlot l i f).links = s.links := rfl
@[simp] theorem State.modSlot_routers (s : State) (l : LinkId) (i : SlotId) (f : Slot → Slot) : (s.modSlot l i f).routers = s.routers := rfl
@[simp] theorem State.modSlot_ringWriter (s : State) (l : LinkId) (i : SlotId) (f : Slot → Slot) : (s.modSlot l i f).ringWriter = s.ringWriter := rfl
@[simp] theorem State.modSlot_poll (s : State) (l : LinkId) (i : SlotId) (f : Slot → Slot) : (s.modSlot l i f).poll = s.poll := rfl
@[simp] theorem State.modSlot_chans (s : State) (l : LinkId) (i : SlotId) (f : Slot → Slot) : (s.modSlot l i f).chans = s.chans := rfl
@[simp] theorem State.modSlot_prots (s : State) (l : LinkId) (i : SlotId) (f : Slot → Slot) : (s.modSlot l i f).prots = s.prots := rfl
@[simp] theorem State.modSlot_guards (s : State) (l : LinkId) (i : SlotId) (f : Slot → Slot) : (s.modSlot l i f).guards = s.guards := rfl
@[simp] theorem State.modSlot_esl (s : State) (l : LinkId) (i : SlotId) (f : Slot → Slot) : (s.modSlot l i f).esl = s.esl := rfl
@[simp] theorem State.modSlot_status (s : State) (l : LinkId) (i : SlotId) (f : Slot → Slot) : (s.modSlot l i f).status = s.status := rfl
@[simp] theorem State.modSlot_repeater (s : State) (l : LinkId) (i : SlotId) (f : Slot → Slot) : (s.modSlot l i f).repeater = s.repeater := rfl
@[simp] theorem State.modSlot_freeCount (s : State) (l : LinkId) (i : SlotId) (f : Slot → Slot) : (s.modSlot l i f).freeCount = s.freeCount := rfl

@[simp] theorem State.modRing_pending (s : State) (r : RingId) (f : Ring → Ring) : (s.modRing r f).pending = s.pending := rfl
@[simp] theorem State.modRing_inReset (s : State) (r : RingId) (f : Ring → Ring) : (s.modRing r f).inReset = s.inReset := rfl
@[simp] theorem State.modRing_planSel (s : State) (r : RingId) (f : Ring → Ring) : (s.modRing r f).planSel = s.planSel := rfl
@[simp] theorem State.modRing_path (s : State) (r : RingId) (f : Ring → Ring) : (s.modRing r f).path = s.path := rfl
@[simp] theorem State.modRing_loader (s : State) (r : RingId) (f : Ring → Ring) : (s.modRing r f).loader = s.loader := rfl
@[simp] theorem State.modRing_links (s : State) (r : RingId) (f : Ring → Ring) : (s.modRing r f).links = s.links := rfl
@[simp] theorem State.modRing_senders (s : State) (r : RingId) (f : Ring → Ring) : (s.modRing r f).senders = s.senders := rfl
@[simp] theorem State.modRing_routers (s : State) (r : RingId) (f : Ring → Ring) : (s.modRing r f).routers = s.routers := rfl
@[simp] theorem State.modRing_poll (s : State) (r : RingId) (f : Ring → Ring) : (s.modRing r f).poll = s.poll := rfl
@[simp] theorem State.modRing_chans (s : State) (r : RingId) (f : Ring → Ring) : (s.modRing r f).chans = s.chans := rfl
@[simp] theorem State.modRing_prots (s : State) (r : RingId) (f : Ring → Ring) : (s.modRing r f).prots = s.prots := rfl
@[simp] theorem State.modRing_guards (s : State) (r : RingId) (f : Ring → Ring) : (s.modRing r f).guards = s.guards := rfl
@[simp] theorem State.modRing_esl (s : State) (r : RingId) (f : Ring → Ring) : (s.modRing r f).esl = s.esl := rfl
@[simp] theorem State.modRing_status (s : State) (r : RingId) (f : Ring → Ring) : (s.modRing r f).status = s.status := rfl
@[simp] theorem State.modRing_repeater (s : State) (r : RingId) (f : Ring → Ring) : (s.modRing r f).repeater = s.repeater := rfl
@[simp] theorem State.modRing_freeCount (s : State) (r : RingId) (f : Ring → Ring) : (s.modRing r f).freeCount = s.freeCount := rfl

@[simp] theorem State.modPoll_pending (s : State) (p : PollId) (f : PollEntry → PollEntry) : (s.modPoll p f).pending = s.pending := rfl
@[simp] theorem State.modPoll_inReset (s : State) (p : PollId) (f : PollEntry → PollEntry) : (s.modPoll p f).inReset = s.inReset := rfl
@[simp] theorem State.modPoll_planSel (s : State) (p : PollId) (f : PollEntry → PollEntry) : (s.modPoll p f).planSel = s.planSel := rfl
@[simp] theorem State.modPoll_path (s : State) (p : PollId) (f : PollEntry → PollEntry) : (s.modPoll p f).path = s.path := rfl
@[simp] theorem State.modPoll_loader (s : State) (p : PollId) (f : PollEntry → PollEntry) : (s.modPoll p f).loader = s.loader := rfl
@[simp] theorem State.modPoll_links (s : State) (p : PollId) (f : PollEntry → PollEntry) : (s.modPoll p f).links = s.links := rfl
@[simp] theorem State.modPoll_senders (s : State) (p : PollId) (f : PollEntry → PollEntry) : (s.modPoll p f).senders = s.senders := rfl
@[simp] theorem State.modPoll_routers (s : State) (p : PollId) (f : PollEntry → PollEntry) : (s.modPoll p f).routers = s.routers := rfl
@[simp] theorem State.modPoll_ringWriter (s : State) (p : PollId) (f : PollEntry → PollEntry) : (s.modPoll p f).ringWriter = s.ringWriter := rfl
@[simp] theorem State.modPoll_chans (s : State) (p : PollId) (f : PollEntry → PollEntry) : (s.modPoll p f).chans = s.chans := rfl
@[simp] theorem State.modPoll_prots (s : State) (p : PollId) (f : PollEntry → PollEntry) : (s.modPoll p f).prots = s.prots := rfl
@[simp] theorem State.modPoll_guards (s : State) (p : PollId) (f : PollEntry → PollEntry) : (s.modPoll p f).guards = s.guards := rfl
@[simp] theorem State.modPoll_esl (s : State) (p : PollId) (f : PollEntry → PollEntry) : (s.modPoll p f).esl = s.esl := rfl
@[simp] theorem State.modPoll_status (s : State) (p : PollId) (f : PollEntry → PollEntry) : (s.modPoll p f).status = s.status := rfl
@[simp] theorem State.modPoll_repeater (s : State) (p : PollId) (f : PollEntry → PollEntry) : (s.modPoll p f).repeater = s.repeater := rfl
@[simp] theorem State.modPoll_freeCount (s : State) (p : PollId) (f : PollEntry → PollEntry) : (s.modPoll p f).freeCount = s.freeCount := rfl

@[simp] theorem State.modPollQueue_pending (s : State) (l : LinkId) (f : List PollId → List PollId) : (s.modPollQueue l f).pending = s.pending := rfl
@[simp] theorem State.modPollQueue_inReset (s : State) (l : LinkId) (f : List PollId → List PollId) : (s.modPollQueue l f).inReset = s.inReset := rfl
@[simp] theorem State.modPollQueue_planSel (s : State) (l : LinkId) (f : List PollId → List PollId) : (s.modPollQueue l f).planSel = s.planSel := rfl
@[simp] theorem State.modPollQueue_path (s : State) (l : LinkId) (f : List PollId → List PollId) : (s.modPollQueue l f).path = s.path := rfl
@[simp] theorem State.modPollQueue_loader (s : State) (l : LinkId) (f : List PollId → List PollId) : (s.modPollQueue l f).loader = s.loader := rfl
@[simp] theorem State.modPollQueue_links (s : State) (l : LinkId) (f : List PollId → List PollId) : (s.modPollQueue l f).links = s.links := rfl
@[simp] theorem State.modPollQueue_senders (s : State) (l : LinkId) (f : List PollId → List PollId) : (s.modPollQueue l f).senders = s.senders := rfl
@[simp] theorem State.modPollQueue_routers (s : State) (l : LinkId) (f : List PollId → List PollId) : (s.modPollQueue l f).routers = s.routers := rfl
@[simp] theorem State.modPollQueue_ringWriter (s : State) (l : LinkId) (f : List PollId → List PollId) : (s.modPollQueue l f).ringWriter = s.ringWriter := rfl
@[simp] theorem State.modPollQueue_chans (s : State) (l : LinkId) (f : List PollId → List PollId) : (s.modPollQueue l f).chans = s.chans := rfl
@[simp] theorem State.modPollQueue_prots (s : State) (l : LinkId) (f : List PollId → List PollId) : (s.modPollQueue l f).prots = s.prots := rfl
@[simp] theorem State.modPollQueue_guards (s : State) (l : LinkId) (f : List PollId → List PollId) : (s.modPollQueue l f).guards = s.guards := rfl
@[simp] theorem State.modPollQueue_esl (s : State) (l : LinkId) (f : List PollId → List PollId) : (s.modPollQueue l f).esl = s.esl := rfl
@[simp] theorem State.modPollQueue_status (s : State) (l : LinkId) (f : List PollId → List PollId) : (s.modPollQueue l f).status = s.status := rfl
@[simp] theorem State.modPollQueue_repeater (s : State) (l : LinkId) (f : List PollId → List PollId) : (s.modPollQueue l f).repeater = s.repeater := rfl
@[simp] theorem State.modPollQueue_freeCount (s : State) (l : LinkId) (f : List PollId → List PollId) : (s.modPollQueue l f).freeCount = s.freeCount := rfl

@[simp] theorem State.modChan_pending (s : State) (c : ChanId) (f : Channel → Channel) : (s.modChan c f).pending = s.pending := rfl
@[simp] theorem State.modChan_inReset (s : State) (c : ChanId) (f : Channel → Channel) : (s.modChan c f).inReset = s.inReset := rfl
@[simp] theorem State.modChan_planSel (s : State) (c : ChanId) (f : Channel → Channel) : (s.modChan c f).planSel = s.planSel := rfl
@[simp] theorem State.modChan_path (s : State) (c : ChanId) (f : Channel → Channel) : (s.modChan c f).path = s.path := rfl
@[simp] theorem State.modChan_loader (s : State) (c : ChanId) (f : Channel → Channel) : (s.modChan c f).loader = s.loader := rfl
@[simp] theorem State.modChan_links (s : State) (c : ChanId) (f : Channel → Channel) : (s.modChan c f).links = s.links := rfl
@[simp] theorem State.modChan_senders (s : State) (c : ChanId) (f : Channel → Channel) : (s.modChan c f).senders = s.senders := rfl
@[simp] theorem State.modChan_routers (s : State) (c : ChanId) (f : Channel → Channel) : (s.modChan c f).routers = s.routers := rfl
@[simp] theorem State.modChan_ringWriter (s : State) (c : ChanId) (f : Channel → Channel) : (s.modChan c f).ringWriter = s.ringWriter := rfl
@[simp] theorem State.modChan_poll (s : State) (c : ChanId) (f : Channel → Channel) : (s.modChan c f).poll = s.poll := rfl
@[simp] theorem State.modChan_prots (s : State) (c : ChanId) (f : Channel → Channel) : (s.modChan c f).prots = s.prots := rfl
@[simp] theorem State.modChan_guards (s : State) (c : ChanId) (f : Channel → Channel) : (s.modChan c f).guards = s.guards := rfl
@[simp] theorem State.modChan_esl (s : State) (c : ChanId) (f : Channel → Channel) : (s.modChan c f).esl = s.esl := rfl
@[simp] theorem State.modChan_status (s : State) (c : ChanId) (f : Channel → Channel) : (s.modChan c f).status = s.status := rfl
@[simp] theorem State.modChan_repeater (s : State) (c : ChanId) (f : Channel → Channel) : (s.modChan c f).repeater = s.repeater := rfl
@[simp] theorem State.modChan_freeCount (s : State) (c : ChanId) (f : Channel → Channel) : (s.modChan c f).freeCount = s.freeCount := rfl

@[simp] theorem State.modProt_pending (s : State) (c : ChanId) (f : Protection → Protection) : (s.modProt c f).pending = s.pending := rfl
@[simp] theorem State.modProt_inReset (s : State) (c : ChanId) (f : Protection → Protection) : (s.modProt c f).inReset = s.inReset := rfl
@[simp] theorem State.modProt_planSel (s : State) (c : ChanId) (f : Protection → Protection) : (s.modProt c f).planSel = s.planSel := rfl
@[simp] theorem State.modProt_path (s : State) (c : ChanId) (f : Protection → Protection) : (s.modProt c f).path = s.path := rfl
@[simp] theorem State.modProt_loader (s : State) (c : ChanId) (f : Protection → Protection) : (s.modProt c f).loader = s.loader := rfl
@[simp] theorem State.modProt_links (s : State) (c : ChanId) (f : Protection → Protection) : (s.modProt c f).links = s.links := rfl
@[simp] theorem State.modProt_senders (s : State) (c : ChanId) (f : Protection → Protection) : (s.modProt c f).senders = s.senders := rfl
@[simp] theorem State.modProt_routers (s : State) (c : ChanId) (f : Protection → Protection) : (s.modProt c f).routers = s.routers := rfl
@[simp] theorem State.modProt_ringWriter (s : State) (c : ChanId) (f : Protection → Protection) : (s.modProt c f).ringWriter = s.ringWriter := rfl
@[simp] theorem State.modProt_poll (s : State) (c : ChanId) (f : Protection → Protection) : (s.modProt c f).poll = s.poll := rfl
@[simp] theorem State.modProt_chans (s : State) (c : ChanId) (f : Protection → Protection) : (s.modProt c f).chans = s.chans := rfl
@[simp] theorem State.modProt_guards (s : State) (c : ChanId) (f : Protection → Protection) : (s.modProt c f).guards = s.guards := rfl
@[simp] theorem State.modProt_esl (s : State) (c : ChanId) (f : Protection → Protection) : (s.modProt c f).esl = s.esl := rfl
@[simp] theorem State.modProt_status (s : State) (c : ChanId) (f : Protection → Protection) : (s.modProt c f).status = s.status := rfl
@[simp] theorem State.modProt_repeater (s : State) (c : ChanId) (f : Protection → Protection) : (s.modProt c f).repeater = s.repeater := rfl
@[simp] theorem State.modProt_freeCount (s : State) (c : ChanId) (f : Protection → Protection) : (s.modProt c f).freeCount = s.freeCount := rfl

@[simp] theorem State.modPath_pending (s : State) (f : Path → Path) : (s.modPath f).pending = s.pending := rfl
@[simp] theorem State.modPath_inReset (s : State) (f : Path → Path) : (s.modPath f).inReset = s.inReset := rfl
@[simp] theorem State.modPath_planSel (s : State) (f : Path → Path) : (s.modPath f).planSel = s.planSel := rfl
@[simp] theorem State.modPath_loader (s : State) (f : Path → Path) : (s.modPath f).loader = s.loader := rfl
@[simp] theorem State.modPath_links (s : State) (f : Path → Path) : (s.modPath f).links = s.links := rfl
@[simp] theorem State.modPath_senders (s : State) (f : Path → Path) : (s.modPath f).senders = s.senders := rfl
@[simp] theorem State.modPath_routers (s : State) (f : Path → Path) : (s.modPath f).routers = s.routers := rfl
@[simp] theorem State.modPath_ringWriter (s : State) (f : Path → Path) : (s.modPath f).ringWriter = s.ringWriter := rfl
@[simp] theorem State.modPath_poll (s : State) (f : Path → Path) : (s.modPath f).poll = s.poll := rfl
@[simp] theorem State.modPath_chans (s : State) (f : Path → Path) : (s.modPath f).chans = s.chans := rfl
@[simp] theorem State.modPath_prots (s : State) (f : Path → Path) : (s.modPath f).prots = s.prots := rfl
@[simp] theorem State.modPath_guards (s : State) (f : Path → Path) : (s.modPath f).guards = s.guards := rfl
@[simp] theorem State.modPath_esl (s : State) (f : Path → Path) : (s.modPath f).esl = s.esl := rfl
@[simp] theorem State.modPath_status (s : State) (f : Path → Path) : (s.modPath f).status = s.status := rfl
@[simp] theorem State.modPath_repeater (s : State) (f : Path → Path) : (s.modPath f).repeater = s.repeater := rfl
@[simp] theorem State.modPath_freeCount (s : State) (f : Path → Path) : (s.modPath f).freeCount = s.freeCount := rfl

@[simp] theorem State.modLoader_pending (s : State) (f : PlanLoader → PlanLoader) : (s.modLoader f).pending = s.pending := rfl
@[simp] theorem State.modLoader_inReset (s : State) (f : PlanLoader → PlanLoader) : (s.modLoader f).inReset = s.inReset := rfl
@[simp] theorem State.modLoader_planSel (s : State) (f : PlanLoader → PlanLoader) : (s.modLoader f).planSel = s.planSel := rfl
@[simp] theorem State.modLoader_path (s : State) (f : PlanLoader → PlanLoader) : (s.modLoader f).path = s.path := rfl
@[simp] theorem State.modLoader_links (s : State) (f : PlanLoader → PlanLoader) : (s.modLoader f).links = s.links := rfl
@[simp] theorem State.modLoader_senders (s : State) (f : PlanLoader → PlanLoader) : (s.modLoader f).senders = s.senders := rfl
@[simp] theorem State.modLoader_routers (s : State) (f : PlanLoader → PlanLoader) : (s.modLoader f).routers = s.routers := rfl
@[simp] theorem State.modLoader_ringWriter (s : State) (f : PlanLoader → PlanLoader) : (s.modLoader f).ringWriter = s.ringWriter := rfl
@[simp] theorem State.modLoader_poll (s : State) (f : PlanLoader → PlanLoader) : (s.modLoader f).poll = s.poll := rfl
@[simp] theorem State.modLoader_chans (s : State) (f : PlanLoader → PlanLoader) : (s.modLoader f).chans = s.chans := rfl
@[simp] theorem State.modLoader_prots (s : State) (f : PlanLoader → PlanLoader) : (s.modLoader f).prots = s.prots := rfl
@[simp] theorem State.modLoader_guards (s : State) (f : PlanLoader → PlanLoader) : (s.modLoader f).guards = s.guards := rfl
@[simp] theorem State.modLoader_esl (s : State) (f : PlanLoader → PlanLoader) : (s.modLoader f).esl = s.esl := rfl
@[simp] theorem State.modLoader_status (s : State) (f : PlanLoader → PlanLoader) : (s.modLoader f).status = s.status := rfl
@[simp] theorem State.modLoader_repeater (s : State) (f : PlanLoader → PlanLoader) : (s.modLoader f).repeater = s.repeater := rfl
@[simp] theorem State.modLoader_freeCount (s : State) (f : PlanLoader → PlanLoader) : (s.modLoader f).freeCount = s.freeCount := rfl

@[simp] theorem State.modStatus_pending (s : State) (f : StatusUnit → StatusUnit) : (s.modStatus f).pending = s.pending := rfl
@[simp] theorem State.modStatus_inReset (s : State) (f : StatusUnit → StatusUnit) : (s.modStatus f).inReset = s.inReset := rfl
@[simp] theorem State.modStatus_planSel (s : State) (f : StatusUnit → StatusUnit) : (s.modStatus f).planSel = s.planSel := rfl
@[simp] theorem State.modStatus_path (s : State) (f : StatusUnit → StatusUnit) : (s.modStatus f).path = s.path := rfl
@[simp] theorem State.modStatus_loader (s : State) (f : StatusUnit → StatusUnit) : (s.modStatus f).loader = s.loader := rfl
@[simp] theorem State.modStatus_links (s : State) (f : StatusUnit → StatusUnit) : (s.modStatus f).links = s.links := rfl
@[simp] theorem State.modStatus_senders (s : State) (f : StatusUnit → StatusUnit) : (s.modStatus f).senders = s.senders := rfl
@[simp] theorem State.modStatus_routers (s : State) (f : StatusUnit → StatusUnit) : (s.modStatus f).routers = s.routers := rfl
@[simp] theorem State.modStatus_ringWriter (s : State) (f : StatusUnit → StatusUnit) : (s.modStatus f).ringWriter = s.ringWriter := rfl
@[simp] theorem State.modStatus_poll (s : State) (f : StatusUnit → StatusUnit) : (s.modStatus f).poll = s.poll := rfl
@[simp] theorem State.modStatus_chans (s : State) (f : StatusUnit → StatusUnit) : (s.modStatus f).chans = s.chans := rfl
@[simp] theorem State.modStatus_prots (s : State) (f : StatusUnit → StatusUnit) : (s.modStatus f).prots = s.prots := rfl
@[simp] theorem State.modStatus_guards (s : State) (f : StatusUnit → StatusUnit) : (s.modStatus f).guards = s.guards := rfl
@[simp] theorem State.modStatus_esl (s : State) (f : StatusUnit → StatusUnit) : (s.modStatus f).esl = s.esl := rfl
@[simp] theorem State.modStatus_repeater (s : State) (f : StatusUnit → StatusUnit) : (s.modStatus f).repeater = s.repeater := rfl
@[simp] theorem State.modStatus_freeCount (s : State) (f : StatusUnit → StatusUnit) : (s.modStatus f).freeCount = s.freeCount := rfl

@[simp] theorem State.modRepeater_pending (s : State) (f : Repeater → Repeater) : (s.modRepeater f).pending = s.pending := rfl
@[simp] theorem State.modRepeater_inReset (s : State) (f : Repeater → Repeater) : (s.modRepeater f).inReset = s.inReset := rfl
@[simp] theorem State.modRepeater_planSel (s : State) (f : Repeater → Repeater) : (s.modRepeater f).planSel = s.planSel := rfl
@[simp] theorem State.modRepeater_path (s : State) (f : Repeater → Repeater) : (s.modRepeater f).path = s.path := rfl
@[simp] theorem State.modRepeater_loader (s : State) (f : Repeater → Repeater) : (s.modRepeater f).loader = s.loader := rfl
@[simp] theorem State.modRepeater_links (s : State) (f : Repeater → Repeater) : (s.modRepeater f).links = s.links := rfl
@[simp] theorem State.modRepeater_senders (s : State) (f : Repeater → Repeater) : (s.modRepeater f).senders = s.senders := rfl
@[simp] theorem State.modRepeater_routers (s : State) (f : Repeater → Repeater) : (s.modRepeater f).routers = s.routers := rfl
@[simp] theorem State.modRepeater_ringWriter (s : State) (f : Repeater → Repeater) : (s.modRepeater f).ringWriter = s.ringWriter := rfl
@[simp] theorem State.modRepeater_poll (s : State) (f : Repeater → Repeater) : (s.modRepeater f).poll = s.poll := rfl
@[simp] theorem State.modRepeater_chans (s : State) (f : Repeater → Repeater) : (s.modRepeater f).chans = s.chans := rfl
@[simp] theorem State.modRepeater_prots (s : State) (f : Repeater → Repeater) : (s.modRepeater f).prots = s.prots := rfl
@[simp] theorem State.modRepeater_guards (s : State) (f : Repeater → Repeater) : (s.modRepeater f).guards = s.guards := rfl
@[simp] theorem State.modRepeater_esl (s : State) (f : Repeater → Repeater) : (s.modRepeater f).esl = s.esl := rfl
@[simp] theorem State.modRepeater_status (s : State) (f : Repeater → Repeater) : (s.modRepeater f).status = s.status := rfl
@[simp] theorem State.modRepeater_freeCount (s : State) (f : Repeater → Repeater) : (s.modRepeater f).freeCount = s.freeCount := rfl

@[simp] theorem State.modRingWriter_pending (s : State) (f : RingWriter → RingWriter) : (s.modRingWriter f).pending = s.pending := rfl
@[simp] theorem State.modRingWriter_inReset (s : State) (f : RingWriter → RingWriter) : (s.modRingWriter f).inReset = s.inReset := rfl
@[simp] theorem State.modRingWriter_planSel (s : State) (f : RingWriter → RingWriter) : (s.modRingWriter f).planSel = s.planSel := rfl
@[simp] theorem State.modRingWriter_path (s : State) (f : RingWriter → RingWriter) : (s.modRingWriter f).path = s.path := rfl
@[simp] theorem State.modRingWriter_loader (s : State) (f : RingWriter → RingWriter) : (s.modRingWriter f).loader = s.loader := rfl
@[simp] theorem State.modRingWriter_links (s : State) (f : RingWriter → RingWriter) : (s.modRingWriter f).links = s.links := rfl
@[simp] theorem State.modRingWriter_senders (s : State) (f : RingWriter → RingWriter) : (s.modRingWriter f).senders = s.senders := rfl
@[simp] theorem State.modRingWriter_routers (s : State) (f : RingWriter → RingWriter) : (s.modRingWriter f).routers = s.routers := rfl
@[simp] theorem State.modRingWriter_poll (s : State) (f : RingWriter → RingWriter) : (s.modRingWriter f).poll = s.poll := rfl
@[simp] theorem State.modRingWriter_chans (s : State) (f : RingWriter → RingWriter) : (s.modRingWriter f).chans = s.chans := rfl
@[simp] theorem State.modRingWriter_prots (s : State) (f : RingWriter → RingWriter) : (s.modRingWriter f).prots = s.prots := rfl
@[simp] theorem State.modRingWriter_guards (s : State) (f : RingWriter → RingWriter) : (s.modRingWriter f).guards = s.guards := rfl
@[simp] theorem State.modRingWriter_esl (s : State) (f : RingWriter → RingWriter) : (s.modRingWriter f).esl = s.esl := rfl
@[simp] theorem State.modRingWriter_status (s : State) (f : RingWriter → RingWriter) : (s.modRingWriter f).status = s.status := rfl
@[simp] theorem State.modRingWriter_repeater (s : State) (f : RingWriter → RingWriter) : (s.modRingWriter f).repeater = s.repeater := rfl
@[simp] theorem State.modRingWriter_freeCount (s : State) (f : RingWriter → RingWriter) : (s.modRingWriter f).freeCount = s.freeCount := rfl

theorem State.link_modLink (s : State) (l k : LinkId) (f : LinkCtl → LinkCtl) :
    (s.modLink l f).link k = if l = k then f (s.link k) else s.link k := look_update _ _ _ _

@[simp] theorem State.link_modLink_self (s : State) (l : LinkId) (f : LinkCtl → LinkCtl) :
    (s.modLink l f).link l = f (s.link l) := look_update_self _ _ _

theorem State.sender_modSender (s : State) (l k : LinkId) (f : SendCtl → SendCtl) :
    (s.modSender l f).sender k = if l = k then f (s.sender k) else s.sender k := look_update _ _ _ _

@[simp] theorem State.sender_modSender_self (s : State) (l : LinkId) (f : SendCtl → SendCtl) :
    (s.modSender l f).sender l = f (s.sender l) := look_update_self _ _ _

@[simp] theorem State.router_modRouter_self (s : State) (l : LinkId) (f : Router → Router) :
    (s.modRouter l f).router l = f (s.router l) := look_update_self _ _ _

@[simp] theorem State.slot_modSlot_self (s : State) (l : LinkId) (i : SlotId) (f : Slot → Slot) :
    (s.modSlot l i f).slot l i = f (s.slot l i) := by
  simp [State.modSlot, State.slot]

@[simp] theorem State.ring_modRing_self (s : State) (r : RingId) (f : Ring → Ring) :
    (s.modRing r f).ring r = f (s.ring r) := look_update_self _ _ _

theorem State.ring_modRing (s : State) (r q : RingId) (f : Ring → Ring) :
    (s.modRing r f).ring q = if r = q then f (s.ring q) else s.ring q := look_update _ _ _ _

@[simp] theorem State.pollEntry_modPoll_self (s : State) (p : PollId) (f : PollEntry → PollEntry) :
    (s.modPoll p f).pollEntry p = f (s.pollEntry p) := look_update_self _ _ _

theorem State.pollEntry_modPoll (s : State) (p q : PollId) (f : PollEntry → PollEntry) :
    (s.modPoll p f).pollEntry q = if p = q then f (s.pollEntry q) else s.pollEntry q := look_update _ _ _ _

@[simp] theorem State.chan_modChan_self (s : State) (c : ChanId) (f : Channel → Channel) :
    (s.modChan c f).chan c = f (s.chan c) := look_update_self _ _ _

theorem State.chan_modChan (s : State) (c d : ChanId) (f : Channel → Channel) :
    (s.modChan c f).chan d = if c = d then f (s.chan d) else s.chan d := look_update _ _ _ _

@[simp] theorem State.prot_modProt_self (s : State) (c : ChanId) (f : Protection → Protection) :
    (s.modProt c f).prot c = f (s.prot c) := look_update_self _ _ _

theorem State.prot_modProt (s : State) (c d : ChanId) (f : Protection → Protection) :
    (s.modProt c f).prot d = if c = d then f (s.prot d) else s.prot d := look_update _ _ _ _

@[simp] theorem State.modPath_path (s : State) (f : Path → Path) : (s.modPath f).path = f s.path := rfl
@[simp] theorem State.modLoader_loader (s : State) (f : PlanLoader → PlanLoader) :
    (s.modLoader f).loader = f s.loader := rfl
@[simp] theorem State.modStatus_status (s : State) (f : StatusUnit → StatusUnit) :
    (s.modStatus f).status = f s.status := rfl
@[simp] theorem State.modRepeater_repeater (s : State) (f : Repeater → Repeater) :
    (s.modRepeater f).repeater = f s.repeater := rfl

end Sys2Proof.Machine
end

