-- ==== Sys2Proof/Laws/Keeps.lean ====
section
/-! SUPPORT. What the operations inside an event leave as it was. `Inner`: the queue of commands, the reset, the straps, the
Plan Loader, the stamp and the withheld-write record are kept, and the memory path only gains submitted requests.
`CommSide`: the drive channels, the rings, the routers and the Repeater are kept as well. `LinkSide l`: only link `l`, its
Send Controller and its request queue change among the links, and nothing is submitted. `DriveSide`: the links, the routers,
the rings, the polled values and the Repeater are kept beside what `Inner` keeps. -/

namespace Sys2Proof.Machine

/-- What no operation inside an event changes, but for the Plan Loader's own and the withheld-write capture. -/
def State.spine (s : State) : List Instr × Bool × BitVec 4 × PlanLoader × Stamp × Counter × Addr :=
  (s.pending, s.inReset, s.planSel, s.loader, s.status.stamp, s.status.withheld, s.status.lastWithheld)

/-- What the operations of links and polled values keep beside that. -/
def State.motor (s : State) :
    Vector Channel 3 × Vector Protection 3 × Vector (Option Bool) 8 × Bool × Repeater × Vector Router 2 × RingWriter :=
  (s.chans, s.prots, s.guards, s.esl, s.repeater, s.routers, s.ringWriter)

/-- What the operations of drive channels keep beside that. -/
def State.comms (s : State) :
    Vector LinkCtl 2 × Vector Router 2 × PollUnit × RingWriter × Repeater × Nat :=
  (s.links, s.routers, s.poll, s.ringWriter, s.repeater, s.freeCount)

/-- The memory path only gains submitted requests. -/
def Path.grows (p q : Path) : Prop := ∃ rs, q = { p with staged := p.staged ++ rs }

theorem Path.grows_refl (p : Path) : p.grows p := ⟨[], by simp⟩

theorem Path.grows_trans {p q r : Path} (h : p.grows q) (k : q.grows r) : p.grows r := by
  obtain ⟨a, rfl⟩ := h
  obtain ⟨b, rfl⟩ := k
  exact ⟨a ++ b, by simp⟩

structure Inner (s t : State) : Prop where
  spine : t.spine = s.spine
  path : s.path.grows t.path

structure CommSide (s t : State) : Prop extends Inner s t where
  motor : t.motor = s.motor

structure LinkSide (l : LinkId) (s t : State) : Prop extends CommSide s t where
  samePath : t.path = s.path
  others : ∀ m, m ≠ l → t.link m = s.link m ∧ t.sender m = s.sender m ∧ t.pollQueue m = s.pollQueue m

structure DriveSide (s t : State) : Prop extends Inner s t where
  comms : t.comms = s.comms

namespace Inner

theorem refl (s : State) : Inner s s := ⟨rfl, Path.grows_refl _⟩

theorem trans {s t u : State} (h : Inner s t) (k : Inner t u) : Inner s u :=
  ⟨k.spine.trans h.spine, Path.grows_trans h.path k.path⟩

/-- The same, the later part first. -/
theorem after {s t u : State} (k : Inner t u) (h : Inner s t) : Inner s u := h.trans k

theorem pending {s t : State} (h : Inner s t) : t.pending = s.pending := congrArg (·.1) h.spine
theorem inReset {s t : State} (h : Inner s t) : t.inReset = s.inReset := congrArg (·.2.1) h.spine
theorem planSel {s t : State} (h : Inner s t) : t.planSel = s.planSel := congrArg (·.2.2.1) h.spine
theorem loader {s t : State} (h : Inner s t) : t.loader = s.loader := congrArg (·.2.2.2.1) h.spine
theorem stamp {s t : State} (h : Inner s t) : t.status.stamp = s.status.stamp := congrArg (·.2.2.2.2.1) h.spine
theorem withheld {s t : State} (h : Inner s t) : t.status.withheld = s.status.withheld :=
  congrArg (·.2.2.2.2.2.1) h.spine
theorem lastWithheld {s t : State} (h : Inner s t) : t.status.lastWithheld = s.status.lastWithheld :=
  congrArg (·.2.2.2.2.2.2) h.spine

/-- An update that changes neither the spine nor the path. -/
theorem of_rfl {s t : State} (h : t.spine = s.spine) (k : t.path = s.path) : Inner s t :=
  ⟨h, by rw [k]; exact Path.grows_refl _⟩

/-- A fold of operations that keep it. -/
theorem foldl {α : Type} (f : State → α → State) (h : ∀ s a, Inner s (f s a)) (l : List α) (s : State) :
    Inner s (l.foldl f s) := by
  induction l generalizing s with
  | nil => exact refl s
  | cons a l ih => exact (h s a).trans (ih _)

end Inner

namespace CommSide

theorem refl (s : State) : CommSide s s := ⟨Inner.refl s, rfl⟩

theorem trans {s t u : State} (h : CommSide s t) (k : CommSide t u) : CommSide s u :=
  ⟨h.toInner.trans k.toInner, k.motor.trans h.motor⟩

theorem of_rfl {s t : State} (h : t.spine = s.spine) (k : t.path = s.path) (m : t.motor = s.motor) : CommSide s t :=
  ⟨Inner.of_rfl h k, m⟩

theorem after {s t u : State} (k : CommSide t u) (h : CommSide s t) : CommSide s u := h.trans k

theorem chans {s t : State} (h : CommSide s t) : t.chans = s.chans := congrArg (·.1) h.motor
theorem prots {s t : State} (h : CommSide s t) : t.prots = s.prots := congrArg (·.2.1) h.motor
theorem guards {s t : State} (h : CommSide s t) : t.guards = s.guards := congrArg (·.2.2.1) h.motor
theorem esl {s t : State} (h : CommSide s t) : t.esl = s.esl := congrArg (·.2.2.2.1) h.motor
theorem repeater {s t : State} (h : CommSide s t) : t.repeater = s.repeater := congrArg (·.2.2.2.2.1) h.motor
theorem routers {s t : State} (h : CommSide s t) : t.routers = s.routers := congrArg (·.2.2.2.2.2.1) h.motor
theorem ringWriter {s t : State} (h : CommSide s t) : t.ringWriter = s.ringWriter :=
  congrArg (·.2.2.2.2.2.2) h.motor

theorem foldl {α : Type} (f : State → α → State) (h : ∀ s a, CommSide s (f s a)) (l : List α) (s : State) :
    CommSide s (l.foldl f s) := by
  induction l generalizing s with
  | nil => exact refl s
  | cons a l ih => exact (h s a).trans (ih _)

end CommSide

namespace LinkSide

theorem refl (l : LinkId) (s : State) : LinkSide l s s := ⟨CommSide.refl s, rfl, fun _ _ => ⟨rfl, rfl, rfl⟩⟩

theorem trans {l : LinkId} {s t u : State} (h : LinkSide l s t) (k : LinkSide l t u) : LinkSide l s u :=
  ⟨h.toCommSide.trans k.toCommSide, k.samePath.trans h.samePath, fun m hm =>
    ⟨(k.others m hm).1.trans (h.others m hm).1, (k.others m hm).2.1.trans (h.others m hm).2.1,
      (k.others m hm).2.2.trans (h.others m hm).2.2⟩⟩

theorem after {l : LinkId} {s t u : State} (k : LinkSide l t u) (h : LinkSide l s t) : LinkSide l s u := h.trans k

theorem of_rfl {l : LinkId} {s t : State} (h : t.spine = s.spine) (k : t.path = s.path) (m : t.motor = s.motor)
    (f : ∀ m, m ≠ l → look t.links m = look s.links m) (g : ∀ m, m ≠ l → look t.senders m = look s.senders m)
    (q : ∀ m, m ≠ l → look t.poll.queues m = look s.poll.queues m) : LinkSide l s t :=
  ⟨CommSide.of_rfl h k m, k, fun m hm => ⟨f m hm, g m hm, q m hm⟩⟩

end LinkSide

namespace DriveSide

theorem refl (s : State) : DriveSide s s := ⟨Inner.refl s, rfl⟩

theorem trans {s t u : State} (h : DriveSide s t) (k : DriveSide t u) : DriveSide s u :=
  ⟨h.toInner.trans k.toInner, k.comms.trans h.comms⟩

theorem of_rfl {s t : State} (h : t.spine = s.spine) (k : t.path = s.path) (m : t.comms = s.comms) : DriveSide s t :=
  ⟨Inner.of_rfl h k, m⟩

theorem after {s t u : State} (k : DriveSide t u) (h : DriveSide s t) : DriveSide s u := h.trans k

theorem links {s t : State} (h : DriveSide s t) : t.links = s.links := congrArg (·.1) h.comms
theorem routers {s t : State} (h : DriveSide s t) : t.routers = s.routers := congrArg (·.2.1) h.comms
theorem poll {s t : State} (h : DriveSide s t) : t.poll = s.poll := congrArg (·.2.2.1) h.comms
theorem ringWriter {s t : State} (h : DriveSide s t) : t.ringWriter = s.ringWriter := congrArg (·.2.2.2.1) h.comms
theorem repeater {s t : State} (h : DriveSide s t) : t.repeater = s.repeater := congrArg (·.2.2.2.2.1) h.comms
theorem freeCount {s t : State} (h : DriveSide s t) : t.freeCount = s.freeCount := congrArg (·.2.2.2.2.2) h.comms

theorem foldl {α : Type} (f : State → α → State) (h : ∀ s a, DriveSide s (f s a)) (l : List α) (s : State) :
    DriveSide s (l.foldl f s) := by
  induction l generalizing s with
  | nil => exact refl s
  | cons a l ih => exact (h s a).trans (ih _)

end DriveSide

/-- A record of another number is read as before. -/
theorem look_other {α : Type} {n : Nat} (v : Vector α n) (i : Fin n) (f : α → α) :
    ∀ j, j ≠ i → look (update v i f) j = look v j := fun _ h => look_update_of_ne v f h.symm

/-- A table left alone. -/
theorem look_same {α : Type} {n : Nat} (v : Vector α n) (i : Fin n) : ∀ j, j ≠ i → look v j = look v j := fun _ _ => rfl

/-! ### Causes, counters, submissions -/

theorem StatusUnit.raise_kept (u : StatusUnit) (m : BitVec 12) (d : LineMode) (c : Cause) :
    (u.raise m d c).stamp = u.stamp ∧ (u.raise m d c).withheld = u.withheld
      ∧ (u.raise m d c).lastWithheld = u.lastWithheld := ⟨rfl, rfl, rfl⟩

theorem State.raise_linkSide (s : State) (l : LinkId) (c : Cause) : LinkSide l s (s.raise c) :=
  .of_rfl rfl rfl rfl (look_same _ l) (look_same _ l) (look_same _ l)
theorem State.raise_driveSide (s : State) (c : Cause) : DriveSide s (s.raise c) := .of_rfl rfl rfl rfl

theorem State.raiseIf_eq (s : State) (b : Bool) (c : Cause) : s.raiseIf b c = if b then s.raise c else s := by
  cases b <;> rfl

theorem State.raiseIf_linkSide (s : State) (l : LinkId) (b : Bool) (c : Cause) : LinkSide l s (s.raiseIf b c) := by
  rw [State.raiseIf_eq]; split
  · exact s.raise_linkSide l c
  · exact .refl l s

theorem State.raiseIf_driveSide (s : State) (b : Bool) (c : Cause) : DriveSide s (s.raiseIf b c) := by
  rw [State.raiseIf_eq]; split
  · exact s.raise_driveSide c
  · exact .refl s

theorem State.modLink_linkSide (s : State) (l : LinkId) (f : LinkCtl → LinkCtl) : LinkSide l s (s.modLink l f) :=
  .of_rfl rfl rfl rfl (look_other _ l f) (look_same _ l) (look_same _ l)
theorem State.modSender_linkSide (s : State) (l : LinkId) (f : SendCtl → SendCtl) : LinkSide l s (s.modSender l f) :=
  .of_rfl rfl rfl rfl (look_same _ l) (look_other _ l f) (look_same _ l)
theorem State.modPoll_linkSide (s : State) (l : LinkId) (p : PollId) (f : PollEntry → PollEntry) :
    LinkSide l s (s.modPoll p f) := .of_rfl rfl rfl rfl (look_same _ l) (look_same _ l) (look_same _ l)
theorem State.modPollQueue_linkSide (s : State) (l : LinkId) (f : List PollId → List PollId) :
    LinkSide l s (s.modPollQueue l f) :=
  .of_rfl rfl rfl rfl (look_same _ l) (look_same _ l) (look_other _ l f)
theorem State.modChan_driveSide (s : State) (c : ChanId) (f : Channel → Channel) : DriveSide s (s.modChan c f) :=
  .of_rfl rfl rfl rfl
theorem State.modProt_driveSide (s : State) (c : ChanId) (f : Protection → Protection) : DriveSide s (s.modProt c f) :=
  .of_rfl rfl rfl rfl
theorem State.modSender_driveSide (s : State) (l : LinkId) (f : SendCtl → SendCtl) : DriveSide s (s.modSender l f) :=
  .of_rfl rfl rfl rfl

/-- Every counter but WITHHELD. -/
theorem State.bump_inner (s : State) (k : TakeCounter) (h : k ≠ .withheld) : Inner s (s.bump k) := by
  cases k with
  | withheld => exact absurd rfl h
  | link l k => cases k <;> exact .of_rfl rfl rfl
  | _ => exact .of_rfl rfl rfl

/-- The counters of the Link Controllers and of the Send Controllers. -/
theorem State.bump_linkSide (s : State) (l : LinkId) (k : LinkCounter) (h : k ≠ .unrouted) (h' : k ≠ .overruns) :
    LinkSide l s (s.bump (.link l k)) := by
  cases k <;> first
    | contradiction
    | exact s.modLink_linkSide l _
    | exact s.modSender_linkSide l _

theorem State.bump_refused_driveSide (s : State) (c : ChanId) : DriveSide s (s.bump (.refused c)) := .of_rfl rfl rfl rfl
theorem State.bump_warnings_driveSide (s : State) (c : ChanId) : DriveSide s (s.bump (.warnings c)) :=
  .of_rfl rfl rfl rfl
theorem State.bump_alarmsMerged_driveSide (s : State) (c : ChanId) : DriveSide s (s.bump (.alarmsMerged c)) :=
  .of_rfl rfl rfl rfl

theorem State.submit_commSide (s : State) (r : Request) : CommSide s (s.submit r) := ⟨⟨rfl, [r], rfl⟩, rfl⟩
theorem State.submit_driveSide (s : State) (r : Request) : DriveSide s (s.submit r) := ⟨⟨rfl, [r], rfl⟩, rfl⟩

theorem State.submitFetch_commSide (s : State) (l : LinkId) (i : SlotId) (n : Nat) : CommSide s (s.submitFetch l i n) := by
  unfold State.submitFetch; split
  · exact .refl s
  · exact s.submit_commSide _

theorem State.submitFetch_driveSide (s : State) (l : LinkId) (i : SlotId) (n : Nat) : DriveSide s (s.submitFetch l i n) := by
  unfold State.submitFetch; split
  · exact .refl s
  · exact s.submit_driveSide _

/-! ### Sending and polling -/

theorem State.kick_linkSide (s : State) (l : LinkId) : LinkSide l s (s.kick l) :=
  .of_rfl rfl rfl rfl (look_other _ l _) (look_other _ l _) (look_same _ l)

theorem State.pollTake_linkSide (s : State) (l : LinkId) : LinkSide l s (s.pollTake l) :=
  (State.kick_linkSide _ l).after (.of_rfl rfl rfl rfl (look_same _ l) (look_other _ l _) (look_other _ l _))

theorem State.queuePoll_linkSide (s : State) (p : PollId) (l : LinkId) (h : s.pollMayQueue p = some l) :
    LinkSide l s (s.queuePoll p) := by
  simp only [State.queuePoll, h]
  exact ((s.modPoll_linkSide l p _).trans (State.modPollQueue_linkSide _ l _)).trans (State.pollTake_linkSide _ l)

theorem State.queuePoll_commSide (s : State) (p : PollId) : CommSide s (s.queuePoll p) := by
  cases h : s.pollMayQueue p with
  | none => simp only [State.queuePoll, h]; exact .refl s
  | some l => exact (s.queuePoll_linkSide p l h).toCommSide

theorem State.queuePoll_path (s : State) (p : PollId) : (s.queuePoll p).path = s.path := by
  unfold State.queuePoll; split <;> rfl

theorem State.latentFetch_commSide (s : State) (ps : List PollId) : CommSide s (s.latentFetch ps) :=
  CommSide.foldl _ State.queuePoll_commSide ps s

theorem State.latentFetch_path (s : State) (ps : List PollId) : (s.latentFetch ps).path = s.path := by
  unfold State.latentFetch
  induction ps generalizing s with
  | nil => rfl
  | cons p ps ih => rw [List.foldl_cons, ih, s.queuePoll_path]

theorem State.requestFetch_linkSide (s : State) (l : LinkId) (i : SlotId) (p : SlotPurpose) :
    LinkSide l s (s.requestFetch l i p) := (s.modSender_linkSide l _).trans (State.raiseIf_linkSide _ l _ _)

theorem State.armNow_linkSide (s : State) (l : LinkId) (i : SlotId) (t : Tag) : LinkSide l s (s.armNow l i t) :=
  s.modSender_linkSide l _

theorem State.fetchNoticed_commSide (s : State) (l : LinkId) (i : SlotId) (n : Nat) :
    CommSide s (s.fetchNoticed l i n) := by
  unfold State.fetchNoticed; split
  · exact s.submitFetch_commSide l i n
  · exact .refl s

theorem State.changeSlot_linkSide (s : State) (l : LinkId) (i : SlotId) (f : Slot → Slot) :
    LinkSide l s (s.changeSlot l i f) := (s.modSender_linkSide l _).trans (State.raiseIf_linkSide _ l _ _)

theorem State.fetchCompleted_linkSide (s : State) (l : LinkId) (i : SlotId) (n : Nat) (c : DownCode) (ws : List Word) :
    LinkSide l s (s.fetchCompleted l i n c ws) := by
  unfold State.fetchCompleted; split
  · exact (s.changeSlot_linkSide l i _).trans (State.kick_linkSide _ l)
  · exact .refl l s

theorem State.abortSlot_linkSide (s : State) (l : LinkId) (i : SlotId) : LinkSide l s (s.abortSlot l i) :=
  (s.modSender_linkSide l _).trans (State.raiseIf_linkSide _ l _ _)

theorem State.abortSends_linkSide (s : State) (l : LinkId) : LinkSide l s (s.abortSends l) :=
  LinkSide.after (State.raiseIf_linkSide _ l _ _)
    (.of_rfl rfl rfl rfl (look_same _ l) (look_other _ l _) (look_other _ l _))

theorem State.askOutcome_linkSide (s : State) (l : LinkId) (o : Outcome) : LinkSide l s (s.askOutcome l o) := by
  unfold State.askOutcome; dsimp only; split
  · exact .refl l s
  · exact (State.pollTake_linkSide _ l).after
      (.of_rfl rfl rfl rfl (look_same _ l) (look_other _ l _) (look_same _ l))

theorem State.itemOutcome_linkSide (s : State) (l : LinkId) (r : ItemRef) (o : Outcome) :
    LinkSide l s (s.itemOutcome l r o) := by
  cases r
  · exact s.changeSlot_linkSide l _ _
  · exact s.askOutcome_linkSide l o

theorem State.consumeAsk_commSide (s : State) (l : LinkId) (t : Tag) : CommSide s (s.consumeAsk l t) := by
  unfold State.consumeAsk; split
  · exact (s.modSender_linkSide l _).toCommSide.trans (State.submitFetch_commSide _ l _ _)
  · exact (s.bump_linkSide l _ (by decide) (by decide)).toCommSide

theorem State.dropAsk_linkSide (s : State) (l : LinkId) (p : PollId) : LinkSide l s (s.dropAsk l p) :=
  .of_rfl rfl rfl rfl (look_same _ l) (look_other _ l _) (look_other _ l _)

theorem State.autoExpires_commSide (s : State) (p : PollId) : CommSide s (s.autoExpires p) :=
  (s.modPoll_linkSide 0 p _).toCommSide.trans (State.queuePoll_commSide _ p)

theorem State.replyExpires_linkSide (s : State) (l : LinkId) (p : PollId) : LinkSide l s (s.replyExpires p) :=
  (s.modPoll_linkSide l p _).trans (State.raise_linkSide _ l _)

/-! ### The Link Controllers -/

theorem State.rescore_linkSide (s : State) (l : LinkId) (f : BitVec 8 → BitVec 8) : LinkSide l s (s.rescore l f) :=
  (s.modLink_linkSide l _).trans (State.raiseIf_linkSide _ l _ _)

theorem State.completeMode_linkSide (s : State) (l : LinkId) (m : Mode) : LinkSide l s (s.completeMode l m) := by
  unfold State.completeMode; dsimp only
  refine LinkSide.trans ?_ (State.kick_linkSide _ l)
  split
  · exact ((State.abortSends_linkSide _ l).after (State.raise_linkSide _ l _)).after
      (.of_rfl rfl rfl rfl (look_other _ l _) (look_same _ l) (look_same _ l))
  · exact (State.raise_linkSide _ l _).after
      (.of_rfl rfl rfl rfl (look_other _ l _) (look_same _ l) (look_same _ l))

theorem State.requestMode_linkSide (s : State) (l : LinkId) (m : Mode) : LinkSide l s (s.requestMode l m) := by
  unfold State.requestMode; split
  · exact s.modLink_linkSide l _
  · exact s.completeMode_linkSide l m

theorem State.completePending_linkSide (s : State) (l : LinkId) : LinkSide l s (s.completePending l) := by
  unfold State.completePending; split
  · exact .refl l s
  · exact s.completeMode_linkSide l _

theorem State.endItem_linkSide (s : State) (l : LinkId) (o : Outcome) : LinkSide l s (s.endItem l o) := by
  unfold State.endItem; split
  · exact .refl l s
  · exact (s.modLink_linkSide l _).trans (State.itemOutcome_linkSide _ l _ o)

theorem State.quietGap_linkSide (s : State) (l : LinkId) : LinkSide l s (s.quietGap l) :=
  (s.modLink_linkSide l _).trans (State.kick_linkSide _ l)

theorem State.recover_linkSide (s : State) (l : LinkId) : LinkSide l s (s.recover l) :=
  ((s.modLink_linkSide l _).trans (State.raise_linkSide _ l _)).trans (State.kick_linkSide _ l)

theorem State.arbitrationLost_linkSide (s : State) (l : LinkId) : LinkSide l s (s.arbitrationLost l) :=
  ((s.modLink_linkSide l _).trans (State.endItem_linkSide _ l _)).trans (State.completePending_linkSide _ l)

theorem State.messageSent_linkSide (s : State) (l : LinkId) : LinkSide l s (s.messageSent l) :=
  (((((s.bump_linkSide l .sent (by decide) (by decide)).trans (State.rescore_linkSide _ l _)).trans
    (State.modLink_linkSide _ l _)).trans (State.endItem_linkSide _ l _)).trans (State.completePending_linkSide _ l))

theorem State.endAtError_linkSide (s : State) (l : LinkId) (b : Bool) : LinkSide l s (s.endAtError l b) := by
  unfold State.endAtError; split
  · exact s.modLink_linkSide l _
  · exact ((s.modLink_linkSide l _).trans (State.endItem_linkSide _ l _)).trans (State.completePending_linkSide _ l)

theorem State.countError_linkSide (s : State) (l : LinkId) (k : LinkCounter) (b : Bool) (h : k ≠ .unrouted)
    (h' : k ≠ .overruns) : LinkSide l s (s.countError l k b) :=
  (s.bump_linkSide l k h h').trans (State.rescore_linkSide _ l _)

theorem State.sendingError_linkSide (s : State) (l : LinkId) (k : LinkCounter) (h : k ≠ .unrouted) (h' : k ≠ .overruns) :
    LinkSide l s (s.sendingError l k) :=
  (s.countError_linkSide l k true h h').trans (State.endAtError_linkSide _ l true)

theorem State.shapeError_linkSide (s : State) (l : LinkId) : LinkSide l s (s.shapeError l) :=
  (s.countError_linkSide l .shape false (by decide) (by decide)).trans (State.endAtError_linkSide _ l true)

theorem State.stuckError_linkSide (s : State) (l : LinkId) : LinkSide l s (s.stuckError l) :=
  (s.countError_linkSide l .stuck _ (by decide) (by decide)).trans (State.endAtError_linkSide _ l false)

theorem State.markEnds_linkSide (s : State) (l : LinkId) : LinkSide l s (s.markEnds l) :=
  ((s.modLink_linkSide l _).trans (State.endItem_linkSide _ l _)).trans (State.completePending_linkSide _ l)

theorem State.mirrorGapEnds_linkSide (s : State) (l : LinkId) : LinkSide l s (s.mirrorGapEnds l) :=
  (s.modLink_linkSide l _).trans (State.kick_linkSide _ l)

theorem State.wake_linkSide (s : State) (l : LinkId) : LinkSide l s (s.wake l) :=
  (s.modLink_linkSide l _).trans (State.raise_linkSide _ l _)

/-! ### The drive channels -/

theorem State.alarmRequest_driveSide (s : State) (c : ChanId) : DriveSide s (s.alarmRequest c) := by
  unfold State.alarmRequest; split
  · exact .refl s
  · split
    · exact (s.modSender_driveSide _ _).trans (State.submitFetch_driveSide _ _ _ _)
    · exact s.bump_alarmsMerged_driveSide c

theorem State.reevaluate_driveSide (s : State) : DriveSide s s.reevaluate :=
  DriveSide.after (State.raiseIf_driveSide _ _ _) (.of_rfl rfl rfl rfl)

theorem State.stopMotion_driveSide (s : State) (c : ChanId) (r : StopReason) : DriveSide s (s.stopMotion c r) := by
  unfold State.stopMotion; split
  · refine (State.reevaluate_driveSide _).after ((State.raiseIf_driveSide _ _ _).after ?_)
    exact .of_rfl rfl rfl rfl
  · exact .refl s

theorem State.stopIf_driveSide (s : State) (c : ChanId) (r : Option StopReason) : DriveSide s (s.stopIf c r) := by
  cases r
  · exact .refl s
  · exact s.stopMotion_driveSide c _

theorem State.takeTrip_driveSide (s : State) (c : ChanId) (k : TripCause) : DriveSide s (s.takeTrip c k) := by
  refine (State.reevaluate_driveSide _).after ((State.alarmRequest_driveSide _ c).after
    ((State.raise_driveSide _ _).after ?_))
  exact .of_rfl rfl rfl rfl

theorem State.trip_driveSide (s : State) (c : ChanId) (k : TripCause) : DriveSide s (s.trip c k) := by
  unfold State.trip; split
  · exact .refl s
  · exact s.modProt_driveSide c _
  all_goals exact s.takeTrip_driveSide c k

theorem State.warn_driveSide (s : State) (c : ChanId) : DriveSide s (s.warn c) :=
  ((s.modProt_driveSide c _).trans (State.bump_warnings_driveSide _ c)).trans (State.raise_driveSide _ _)

theorem State.overcurrent_driveSide (s : State) (c : ChanId) : DriveSide s (s.overcurrent c) := by
  unfold State.overcurrent; split
  · exact .refl s
  · split
    · exact s.warn_driveSide c
    · exact s.trip_driveSide c _

theorem State.watchPulse_driveSide (s : State) (c : ChanId) : DriveSide s (s.watchPulse c) := by
  unfold State.watchPulse; split
  · dsimp only; split
    · exact (((s.modProt_driveSide c _).trans (State.modProt_driveSide _ c _)).trans (State.raise_driveSide _ _)).trans
        (State.alarmRequest_driveSide _ c)
    · exact s.modProt_driveSide c _
  · exact .refl s

theorem State.eslTrips_driveSide (s : State) (o : List ChanId) : DriveSide s (s.eslTrips o) :=
  DriveSide.after (DriveSide.foldl _ (fun t c => t.trip_driveSide c .esl) o _) (.of_rfl rfl rfl rfl)

theorem State.refuse_driveSide (s : State) (c : ChanId) (src : CmdSource) (r : RefuseReason) (b : Byte) :
    DriveSide s (s.refuse c src r b) := s.modChan_driveSide c _

theorem State.toRest_driveSide (s : State) (c : ChanId) (st : ChanState) : DriveSide s (s.toRest c st) :=
  DriveSide.after (State.reevaluate_driveSide _) (.of_rfl rfl rfl rfl)

theorem State.startMotion_driveSide (s : State) (c : ChanId) (src : CmdSource) (k : MotionCode) (d : Dir)
    (x : DriveCommand) : DriveSide s (s.startMotion c src k d x) := by
  unfold State.startMotion; split
  · exact .refl s
  · exact DriveSide.after (State.reevaluate_driveSide _) (.of_rfl rfl rfl rfl)

theorem State.atTarget_driveSide (s : State) (c : ChanId) : DriveSide s (s.atTarget c) := by
  unfold State.atTarget; split
  · exact s.stopMotion_driveSide c _
  · exact s.modChan_driveSide c _

theorem State.applyMotion_driveSide (s : State) (c : ChanId) (src : CmdSource) (k : MotionCode) (x : DriveCommand) :
    DriveSide s (s.applyMotion c src k x) := by
  have h : DriveSide s (s.watchOffByMotion c) := s.modProt_driveSide c _
  unfold State.applyMotion; dsimp only
  split <;> refine h.trans ?_
  · exact State.atTarget_driveSide _ c
  · split
    · exact .of_rfl rfl rfl rfl
    · exact State.startMotion_driveSide _ c src k _ x

theorem State.applyCommand_driveSide (s : State) (c : ChanId) (src : CmdSource) (x : DriveCommand) :
    DriveSide s (s.applyCommand c src x) := by
  unfold State.applyCommand; split
  · exact .refl s
  · exact s.toRest_driveSide c _
  · exact (s.modChan_driveSide c _).trans (State.toRest_driveSide _ c _)
  · exact s.applyMotion_driveSide c src _ x
  · exact s.applyMotion_driveSide c src _ x
  · exact s.applyMotion_driveSide c src _ x
  · exact s.stopMotion_driveSide c _
  · exact (s.modProt_driveSide c _).trans (State.toRest_driveSide _ c _)
  · exact s.modProt_driveSide c _
  · exact s.modProt_driveSide c _

theorem State.command_driveSide (s : State) (c : ChanId) (src : CmdSource) (x : DriveCommand) :
    DriveSide s (s.command c src x) := by
  unfold State.command; split
  · exact s.refuse_driveSide c src _ _
  · exact s.applyCommand_driveSide c src x

theorem State.deckCommand_driveSide (s : State) (c : ChanId) (l : LinkId) (m : Message) :
    DriveSide s (s.deckCommand c l m) := by
  unfold State.deckCommand; split
  · exact s.refuse_driveSide c _ _ _
  · exact s.command_driveSide c _ _

theorem State.pulse_driveSide (s : State) (c : ChanId) : DriveSide s (s.pulse c) := by
  unfold State.pulse; dsimp only
  split
  · exact DriveSide.after (State.stopIf_driveSide _ c _) (.of_rfl rfl rfl rfl)
  · split
    · exact .of_rfl rfl rfl rfl
    · exact DriveSide.after (State.watchPulse_driveSide _ c) (.of_rfl rfl rfl rfl)

theorem State.endSwitch_driveSide (s : State) (c : ChanId) (w : Dir) (b : Bool) : DriveSide s (s.endSwitch c w b) :=
  ((s.modChan_driveSide c _).trans (State.stopIf_driveSide _ c _)).trans (State.reevaluate_driveSide _)

theorem State.convert_driveSide (s : State) (c : ChanId) (v : Current) : DriveSide s (s.convert c v) :=
  .of_rfl rfl rfl rfl

theorem State.rampEnds_driveSide (s : State) (c : ChanId) : DriveSide s (s.rampEnds c) := by
  unfold State.rampEnds; split
  · exact .refl s
  · exact .of_rfl rfl rfl rfl

/-! ### Rings, values, routing, the Repeater -/

theorem State.submitEntry_inner (s : State) (h : Handoff) (p : Purpose) (o : Nat) (b : List WriteBeat) :
    Inner s (s.submitEntry h p o b) := by
  unfold State.submitEntry; split
  · exact .refl s
  · exact (s.submit_commSide _).toInner

theorem State.writerTake_inner (s : State) : Inner s s.writerTake := by
  unfold State.writerTake; split
  · exact .refl s
  · exact Inner.after (State.submitEntry_inner _ _ _ _ _) (.of_rfl rfl rfl)

theorem State.intoRing_inner (s : State) (l : LinkId) (r : RingId) (k : Nat) (m : Message) (d : Damage) (t : Stamp) :
    Inner s (s.intoRing l r k m d t) := by
  unfold State.intoRing; split
  · exact (s.bump_inner _ (by simp)).trans (State.raise_linkSide _ l _).toInner
  · split
    · exact (s.bump_inner _ (by simp)).trans (State.raise_linkSide _ l _).toInner
    · exact Inner.after (State.writerTake_inner _) (.of_rfl rfl rfl)

theorem State.writerDone_inner (s : State) : Inner s s.writerDone :=
  Inner.after (State.writerTake_inner _) (.of_rfl rfl rfl)

theorem State.writerAbandon_inner (s : State) (h : Handoff) : Inner s (s.writerAbandon h) :=
  Inner.after (State.writerDone_inner _) (.of_rfl rfl rfl)

theorem State.bodyWritten_inner (s : State) (c : DownCode) : Inner s (s.bodyWritten c) := by
  unfold State.bodyWritten; split
  · exact .refl s
  · cases c
    · exact Inner.after (State.submitEntry_inner _ _ _ _ _) (.of_rfl rfl rfl)
    · exact s.writerAbandon_inner _

theorem State.markerWritten_inner (s : State) (c : DownCode) : Inner s (s.markerWritten c) := by
  unfold State.markerWritten; split
  · exact .refl s
  · cases c
    · refine (State.writerDone_inner _).after ((State.raise_linkSide _ 0 _).toInner.after ?_)
      exact .of_rfl rfl rfl
    · exact s.writerAbandon_inner _

theorem State.releaseNoticed_inner (s : State) (r : RingId) (i : Nat) : Inner s (s.releaseNoticed r i) := .of_rfl rfl rfl

theorem State.storeValue_inner (s : State) (p : PollId) (m : Message) (t : Stamp) : Inner s (s.storeValue p m t) :=
  (s.modPoll_linkSide 0 p _).toInner.trans (State.reevaluate_driveSide _).toInner

theorem State.staleExpires_inner (s : State) (p : PollId) : Inner s (s.staleExpires p) :=
  (s.modPoll_linkSide 0 p _).toInner.trans (State.reevaluate_driveSide _).toInner

theorem State.storeReply_inner (s : State) (l : LinkId) (p : PollId) (m : Message) (t : Stamp) :
    Inner s (s.storeReply l p m t) := by
  unfold State.storeReply; split
  · exact ((s.dropAsk_linkSide l p).toInner.trans (State.storeValue_inner _ p m t)).trans
      (State.pollTake_linkSide _ l).toInner
  · exact s.storeValue_inner p m t

theorem State.sift_inner (s : State) (l : LinkId) (m : Message) (t : Stamp) : Inner s (s.sift l m t) := by
  unfold State.sift; split
  · exact s.intoRing_inner l _ _ m _ t
  · exact .refl s
  · exact s.bump_inner _ (by simp)

theorem State.hear_inner (s : State) (l : LinkId) (m : Message) (t : Stamp) : Inner s (s.hear l m t) := by
  unfold State.hear; split
  · exact .refl s
  · exact s.storeValue_inner _ m t

theorem State.routeGood_inner (s : State) (l : LinkId) (m : Message) (t : Stamp) : Inner s (s.routeGood l m t) := by
  unfold State.routeGood; split
  · split
    · exact s.storeReply_inner l _ m t
    · exact s.sift_inner l m t
  · split
    · exact (s.consumeAsk_commSide l _).toInner
    · exact s.sift_inner l m t
  · split
    · exact (s.deckCommand_driveSide _ l m).toInner
    · exact (s.hear_inner l m t).trans (State.sift_inner _ l m t)

theorem State.routeDamaged_inner (s : State) (l : LinkId) (m : Message) (t : Stamp) :
    Inner s (s.routeDamaged l m t) := by
  unfold State.routeDamaged; split
  · split
    · exact s.intoRing_inner l _ _ m _ t
    · exact .refl s
  · exact .refl s
  · exact .refl s

theorem State.countReceived_linkSide (s : State) (l : LinkId) (m : Message) : LinkSide l s (s.countReceived l m) :=
  (s.bump_linkSide l .received (by decide) (by decide)).trans (State.modLink_linkSide _ l _)

theorem State.messageReceived_inner (s : State) (l : LinkId) : Inner s (s.messageReceived l) :=
  ((((s.countReceived_linkSide l _).trans (State.rescore_linkSide _ l _)).trans
    (State.modLink_linkSide _ l _)).toInner).trans (State.routeGood_inner _ l _ _)

theorem State.checkError_inner (s : State) (l : LinkId) : Inner s (s.checkError l) :=
  ((s.countError_linkSide l .check false (by decide) (by decide)).toInner.trans (State.routeDamaged_inner _ l _ _)).trans
    (State.endAtError_linkSide _ l true).toInner

theorem State.mirroredEnds_inner (s : State) (l : LinkId) (m : Message) : Inner s (s.mirroredEnds l m) :=
  ((((((s.modLink_linkSide l _).trans (State.endItem_linkSide _ l _)).trans
    (State.bump_linkSide _ l .sent (by decide) (by decide))).trans (State.countReceived_linkSide _ l m)).toInner).trans
    (State.routeGood_inner _ l m _)).trans (State.completePending_linkSide _ l).toInner

theorem State.modRepeater_inner (s : State) (f : Repeater → Repeater) : Inner s (s.modRepeater f) := .of_rfl rfl rfl

theorem State.submitCover_inner (s : State) (g : Nat) (a : Addr) (rs : List Nat) : Inner s (s.submitCover g a rs) :=
  Inner.foldl _ (fun t _ => (t.submit_commSide _).toInner) _ s

theorem State.frameDue_inner (s : State) : Inner s s.frameDue := by
  unfold State.frameDue; split
  · exact .refl s
  · exact s.modRepeater_inner _
  · exact (s.modRepeater_inner _).trans (State.submitCover_inner _ _ _ _)

theorem State.beginCycle_inner (s : State) : Inner s s.beginCycle :=
  (s.modRepeater_inner _).trans (State.frameDue_inner _)

theorem State.periodExpires_inner (s : State) : Inner s s.periodExpires := by
  unfold State.periodExpires; dsimp only; split
  · exact .refl s
  · exact (s.modRepeater_inner _).trans (State.beginCycle_inner _)
  · exact ((s.modRepeater_inner _).trans (State.bump_inner _ _ (by simp))).trans (State.modRepeater_inner _ _)

theorem State.frameEnds_inner (s : State) : Inner s s.frameEnds := by
  unfold State.frameEnds; dsimp only; split
  · exact ((s.modRepeater_inner _).trans (State.modRepeater_inner _ _)).trans (State.frameDue_inner _)
  · split
    · exact ((s.modRepeater_inner _).trans (State.modRepeater_inner _ _)).trans (State.beginCycle_inner _)
    · exact (s.modRepeater_inner _).trans (State.modRepeater_inner _ _)

theorem State.rangeRead_inner (s : State) (g k : Nat) (c : DownCode) (ws : List Word) : Inner s (s.rangeRead g k c ws) := by
  unfold State.rangeRead; split
  · split
    · exact s.modRepeater_inner _
    · exact .refl s
  all_goals exact .refl s

theorem State.restartRepeater_inner (s : State) : Inner s s.restartRepeater := by
  unfold State.restartRepeater; dsimp only; split
  · exact s.modRepeater_inner _
  · exact (s.modRepeater_inner _).trans (State.beginCycle_inner _)

theorem State.finishingEnds_inner (s : State) : Inner s s.finishingEnds := s.modRepeater_inner _

end Sys2Proof.Machine
end

