-- ==== Sys2Proof/Laws/Path.lean ====
section
/-! SUPPORT. The memory path: the end of an event, settling, and the taking of a transfer. -/

namespace Sys2Proof.Machine

/-! ### The end of an event -/

theorem joinOrder_nil : joinOrder [] = [] := rfl

/-- With nothing submitted an event ends as it stands. -/
theorem State.commit_of_empty (s : State) (h : s.path.staged = []) : s.commit = s := by
  cases s with
  | mk pending inReset planSel path loader links senders routers ringWriter poll chans prots guards esl status repeater
      freeCount =>
    cases path
    simp_all [State.commit, State.modPath, joinOrder_nil]

theorem joinOrder_one (r : Request) (h : r.purpose.rank < 5) : joinOrder [r] = [r] := by
  obtain ⟨k, hk⟩ : ∃ k, r.purpose.rank = k := ⟨_, rfl⟩
  rw [hk] at h
  match k, h with
  | 0, _ | 1, _ | 2, _ | 3, _ | 4, _ => simp [joinOrder, List.range, List.range.loop, List.filter, hk]

theorem State.commit_submit (s : State) (r : Request) (h : s.path.staged = []) (hr : r.purpose.rank < 5) :
    (s.submit r).commit = s.modPath fun p => p.join r := by
  have hj := joinOrder_one r hr
  cases s with
  | mk pending inReset planSel path loader links senders routers ringWriter poll chans prots guards esl status repeater
      freeCount =>
    cases path
    simp_all [State.commit, State.submit, State.modPath]

/-- Every producer has a place below 5 (R18). -/
theorem Purpose.rank_lt (p : Purpose) : p.rank < 5 := by
  cases p with
  | fetch l i n => have := l.isLt; simp only [Purpose.rank]; omega
  | _ => simp [Purpose.rank]

/-- An event outside the reset. -/
theorem State.event_of_running (s : State) (f : State → State) (h : s.inReset = false) : s.event f = (f s).commit := by
  simp [State.event, h]

theorem State.running_inReset {s : State} (h : s.running = true) : s.inReset = false := by
  simp [State.running] at h; exact h.1

theorem State.running_staged {s : State} (h : s.running = true) : s.path.staged = [] := by
  simp [State.running] at h; exact h.2

/-- An event that submits nothing. -/
theorem State.event_eq (s : State) (f : State → State) (h : s.running = true) (k : (f s).path.staged = []) :
    s.event f = f s := by
  rw [State.event_of_running s f (State.running_inReset h), State.commit_of_empty _ k]

/-! ### Settling -/

/-- Every notice of a settled entry has been delivered. -/
def Path.delivered (p : Path) : Bool := p.settled.all fun e => e.notices == []

theorem Path.clearSettled_of_delivered (p : Path) (h : p.delivered = true) : p.clearSettled = p := by
  have hm : (p.settled.map fun e => { e with notices := [] }) = p.settled := by
    conv => rhs; rw [← List.map_id p.settled]
    apply List.map_congr_left
    intro e he
    have hn := (List.all_eq_true.mp h) e he
    cases e; simp_all
  cases p
  simp_all [Path.clearSettled, Path.settled]

theorem State.settle_of_delivered (s : State) (h : s.path.delivered = true) : s.settle = s := by
  have hn : s.path.settled.flatMap (·.notices) = [] := by
    rw [List.flatMap_eq_nil_iff]
    intro e he
    have := (List.all_eq_true.mp h) e he
    simpa using this
  have hc : s.modPath Path.clearSettled = s := by
    simp [State.modPath, Path.clearSettled_of_delivered _ h]
  simp [State.settle, hn, hc]

/-- An entry that is not READY settles nothing. -/
theorem Path.settled_append (p : Path) (e : OrderEntry) (h : e.ready = false) :
    ({ p with orderList := p.orderList ++ [e] } : Path).settled = p.settled := by
  unfold Path.settled
  dsimp only
  induction p.orderList with
  | nil => simp [h]
  | cons x xs ih => by_cases hx : x.ready <;> simp [hx, ih]

/-! ### Taking -/

theorem State.takesNow_iff (s : State) : s.takesNow = true ↔
    s.inReset = false ∧ s.path.port = [] ∧ s.path.orderList.length < 16 ∧ s.path.staged = [] ∧ s.path.delivered = true := by
  simp [State.takesNow, State.hasRoom, Path.delivered, and_assoc]

/-- A transfer presented on a free port is taken at once (R1). -/
theorem State.presentTransfer_now (s : State) (t : Transfer) (h : s.takesNow = true) :
    s.presentTransfer t = (s.taking t).commit := by
  obtain ⟨hr, hp, ho, -, -⟩ := s.takesNow_iff.mp h
  have e : ((s.modPath fun p => { p with port := p.port ++ [t] }).modPath fun p => { p with port := [] }) = s := by
    cases s; rename_i path _ _ _ _ _ _ _ _ _ _ _ _ _; cases path; simp_all [State.modPath]
  have hp' : (s.modPath fun p => { p with port := p.port ++ [t] }).path.port = [t] := by simp [hp]
  have hr' : (s.modPath fun p => { p with port := p.port ++ [t] }).hasRoom = true := by
    exact decide_eq_true ho
  unfold State.presentTransfer State.takeNext
  simp only [hr, hp', hr', if_true, Bool.false_eq_true, if_false, e]

/-- One more entry leaves nothing to deliver if it is not READY or has no notice. -/
theorem Path.delivered_append (p : Path) (e : OrderEntry) (h : p.delivered = true) (he : e.ready = false ∨ e.notices = []) :
    ({ p with orderList := p.orderList ++ [e] } : Path).delivered = true := by
  unfold Path.delivered Path.settled at h ⊢
  revert h
  dsimp only
  induction p.orderList with
  | nil => intro _; rcases he with he | he <;> by_cases hr : e.ready <;> simp_all
  | cons x xs ih =>
    intro h
    by_cases hx : x.ready
    · rw [List.takeWhile_cons_of_pos hx, List.all_cons, Bool.and_eq_true] at h
      rw [List.cons_append, List.takeWhile_cons_of_pos hx, List.all_cons, Bool.and_eq_true]
      exact ⟨h.1, ih h.2⟩
    · simp [hx]

theorem State.captureWithheld_path (s : State) (t : Transfer) (ds : List Disposition) :
    (s.captureWithheld t ds).path = s.path := by
  unfold State.captureWithheld; split <;> rfl

/-- The taking of a transfer that settles nothing new and whose effects keep the memory path but for submissions. -/
theorem State.taking_eq (s : State) (t : Transfer) (h : s.path.delivered = true)
    (hg : s.path.grows (s.takeEffects t).1.path)
    (hu : (newEntry t (s.dispositions t) (s.snapshotOf t) (s.takeEffects t).2).ready = false
      ∨ (s.takeEffects t).2 = []) :
    s.taking t = ((s.takeEffects t).1.captureWithheld t (s.dispositions t)).withEntry
      (newEntry t (s.dispositions t) (s.snapshotOf t) (s.takeEffects t).2) := by
  obtain ⟨rs, hrs⟩ := hg
  refine State.settle_of_delivered _ ?_
  rw [State.modPath_path, State.captureWithheld_path, hrs]
  exact Path.delivered_append { s.path with staged := s.path.staged ++ rs } _ h hu

/-! ### A write of one word (R5, R9) -/

theorem State.refsOf_wordWrite (s : State) (id : TransferId) (a : Addr) (v : Word) (r : WordRef) (h : s.sees a r = true) :
    s.refsOf (wordWrite id a v) = [r] := by
  have h' : classify s.planSel s.plan a = r := by simpa [State.sees] using h
  simp [State.refsOf, wordWrite, Transfer.beatCount, List.range, List.range.loop, beatAddr, h']

theorem State.touches_wordWrite (s : State) (id : TransferId) (a : Addr) (v : Word) (r : WordRef) (h : s.sees a r = true) :
    s.touches (wordWrite id a v) = [(r, fullBeat v)] := by
  simp only [State.touches, s.refsOf_wordWrite id a v r h]
  rfl

theorem State.trigger_disposition (s : State) (r : WordRef) (v : Word) (hc : r.wordClass = .trigger) (ts : List Touch) :
    s.beatDisposition ts (r, fullBeat v) = if s.acceptsTrigger r v then .passTrigger else .withhold := by
  simp [State.beatDisposition, State.writeDisposition, fullBeat, WriteBeat.full, hc]

/-- A full write of a trigger word whose owner accepts it, presented on a free port: its effect, and one more entry. -/
theorem State.trigger_taken (s : State) (id : TransferId) (a : Addr) (v : Word) (r : WordRef) (h : s.takesNow = true)
    (hs : s.sees a r = true) (hc : r.wordClass = .trigger) (ha : s.acceptsTrigger r v = true)
    (hg : s.path.grows (s.triggerEffect [(r, fullBeat v)] r v).1.path) :
    s.presentTransfer (wordWrite id a v) =
      ((s.triggerEffect [(r, fullBeat v)] r v).1.withEntry
        (triggerEntry id a v (s.triggerEffect [(r, fullBeat v)] r v).2)).commit := by
  obtain ⟨-, -, -, -, hd⟩ := s.takesNow_iff.mp h
  have hdisp : s.beatDisposition [(r, fullBeat v)] (r, fullBeat v) = .passTrigger := by
    rw [s.trigger_disposition r v hc, ha]; rfl
  have ht := s.touches_wordWrite id a v r hs
  have hds : s.dispositions (wordWrite id a v) = [.passTrigger] := by
    simp only [State.dispositions, ht]
    simp [wordWrite, hdisp]
  have heff : s.takeEffects (wordWrite id a v) = s.triggerEffect [(r, fullBeat v)] r v := by
    simp only [State.takeEffects, ht]
    cases r <;> simp [WordRef.wordClass] at hc <;>
      simp [wordWrite, State.writeEffects, State.beatEffect, hdisp] <;> rfl
  have hentry : newEntry (wordWrite id a v) (s.dispositions (wordWrite id a v)) (s.snapshotOf (wordWrite id a v))
      (s.takeEffects (wordWrite id a v)).2
        = triggerEntry id a v (s.triggerEffect [(r, fullBeat v)] r v).2 := by
    rw [hds, heff]; rfl
  rw [s.presentTransfer_now _ h, s.taking_eq _ hd (by rw [heff]; exact hg) (by rw [hentry]; exact .inl rfl), hentry, heff, hds]
  rfl

/-- A full write of a trigger word that its owner refuses, presented on a free port: only the withheld-write capture, and an
entry that waits for nothing. -/
theorem State.trigger_withheld (s : State) (id : TransferId) (a : Addr) (v : Word) (r : WordRef) (h : s.takesNow = true)
    (hs : s.sees a r = true) (hc : r.wordClass = .trigger) (ha : s.acceptsTrigger r v = false) :
    s.presentTransfer (wordWrite id a v) =
      (((s.bump .withheld).modStatus fun u => { u with lastWithheld := a }).raise .withheld).withEntry
        ⟨id, true, a, 1, [.withhold], [], [], []⟩ := by
  obtain ⟨-, -, -, hst, hd⟩ := s.takesNow_iff.mp h
  have hdisp : s.beatDisposition [(r, fullBeat v)] (r, fullBeat v) = .withhold := by
    rw [s.trigger_disposition r v hc, ha]; rfl
  have ht := s.touches_wordWrite id a v r hs
  have hds : s.dispositions (wordWrite id a v) = [.withhold] := by
    simp only [State.dispositions, ht]
    simp [wordWrite, hdisp]
  have heff : s.takeEffects (wordWrite id a v) = (s, []) := by
    simp only [State.takeEffects, ht]
    cases r <;> simp [WordRef.wordClass] at hc <;>
      simp [wordWrite, State.writeEffects, State.beatEffect, hdisp]
  have ha' : beatAddr (wordWrite id a v) 0 = a := by simp [beatAddr, wordWrite]
  rw [s.presentTransfer_now _ h, s.taking_eq _ hd (by rw [heff]; exact Path.grows_refl _) (by rw [heff]; exact .inr rfl),
    heff, hds]
  have hcap : s.captureWithheld (wordWrite id a v) [.withhold]
      = ((s.bump .withheld).modStatus fun u => { u with lastWithheld := a }).raise .withheld := by
    simp only [State.captureWithheld, firstWithheld, List.findIdx?, List.findIdx?.go]
    simp [ha']
  rw [State.commit_of_empty]
  · rw [← hcap]; rfl
  · simp [State.withEntry, State.captureWithheld_path, hst]

end Sys2Proof.Machine
end

