-- ==== Sys2Proof/Laws/Events.lean ====
section
/-! SUPPORT. What every operation inside an event keeps, the Plan Loader's among them: the queue of commands, the reset, the
straps, and the memory path but for submissions (`Within`). -/

namespace Sys2Proof.Machine

structure Within (s t : State) : Prop where
  pending : t.pending = s.pending
  inReset : t.inReset = s.inReset
  planSel : t.planSel = s.planSel
  stamp : t.status.stamp = s.status.stamp
  withheld : t.status.withheld = s.status.withheld
  lastWithheld : t.status.lastWithheld = s.status.lastWithheld
  path : s.path.grows t.path

theorem Inner.within {s t : State} (h : Inner s t) : Within s t :=
  ⟨h.pending, h.inReset, h.planSel, h.stamp, h.withheld, h.lastWithheld, h.path⟩

namespace Within

theorem refl (s : State) : Within s s := (Inner.refl s).within

theorem trans {s t u : State} (h : Within s t) (k : Within t u) : Within s u :=
  ⟨k.pending.trans h.pending, k.inReset.trans h.inReset, k.planSel.trans h.planSel, k.stamp.trans h.stamp,
    k.withheld.trans h.withheld, k.lastWithheld.trans h.lastWithheld, Path.grows_trans h.path k.path⟩

theorem after {s t u : State} (k : Within t u) (h : Within s t) : Within s u := h.trans k

theorem of_rfl {s t : State} (a : t.pending = s.pending) (b : t.inReset = s.inReset) (c : t.planSel = s.planSel)
    (d : t.status.stamp = s.status.stamp) (e : t.status.withheld = s.status.withheld)
    (f : t.status.lastWithheld = s.status.lastWithheld) (g : t.path = s.path) : Within s t :=
  ⟨a, b, c, d, e, f, by rw [g]; exact Path.grows_refl _⟩

theorem foldl {α : Type} (f : State → α → State) (h : ∀ s a, Within s (f s a)) (l : List α) (s : State) :
    Within s (l.foldl f s) := by
  induction l generalizing s with
  | nil => exact refl s
  | cons a l ih => exact (h s a).trans (ih _)

end Within

/-! ### The Plan Loader -/

theorem State.modLoader_within (s : State) (f : PlanLoader → PlanLoader) : Within s (s.modLoader f) :=
  .of_rfl rfl rfl rfl rfl rfl rfl rfl

theorem State.submitPlanRead_inner (s : State) (serial i : Nat) : Inner s (s.submitPlanRead serial i) :=
  (s.submit_commSide _).toInner

theorem State.planNoticed_within (s : State) (serial : Nat) : Within s (s.planNoticed serial) := by
  unfold State.planNoticed; split
  · exact .refl s
  · split
    · exact ((s.modLoader_within _).trans (State.submitPlanRead_inner _ _ _).within).trans
        (State.submitPlanRead_inner _ _ _).within
    · exact .refl s

theorem State.refusePlan_within (s : State) (f : PlanFault) : Within s (s.refusePlan f) :=
  (s.modLoader_within _).trans (State.raise_driveSide _ _).toInner.within

theorem State.switchPlan_within (s : State) (q : Plan) : Within s (s.switchPlan q) :=
  .of_rfl rfl rfl rfl rfl rfl rfl rfl

theorem State.replanLinks_inner (s : State) (old new : Plan) (m : RingId → Bool) : Inner s (s.replanLinks old new m) :=
  .of_rfl rfl rfl

theorem State.dropAsks_inner (s : State) (old new : Plan) : Inner s (s.dropAsks old new) := by
  refine Inner.foldl _ (fun t p => ?_) _ s
  split
  · exact .refl t
  · split
    · exact (t.dropAsk_linkSide _ p).toInner
    · exact .refl t

theorem State.withPoll_inner (s : State) (u : PollUnit) : Inner s { s with poll := u } := .of_rfl rfl rfl

theorem State.replanPoll_inner (s : State) (old new : Plan) : Inner s (s.replanPoll old new) := by
  unfold State.replanPoll; dsimp only
  refine (State.pollTake_linkSide _ 1).toInner.after ((State.pollTake_linkSide _ 0).toInner.after ?_)
  exact (State.withPoll_inner _ _).after (s.dropAsks_inner old new)

theorem State.replanChannels_driveSide (s : State) : DriveSide s s.replanChannels :=
  DriveSide.after (State.reevaluate_driveSide _) (.of_rfl rfl rfl rfl)

theorem State.forcePlan_within (s : State) (q : Plan) : Within s (s.forcePlan q) :=
  (((((s.switchPlan_within q).trans (State.replanLinks_inner _ _ _ _).within).trans
    (State.replanPoll_inner _ _ _).within).trans (State.replanChannels_driveSide _).toInner.within).trans
    (State.restartRepeater_inner _).within).trans (State.raise_driveSide _ _).toInner.within

theorem State.endLoad_within (s : State) (l : Load) : Within s (s.endLoad l) := by
  unfold State.endLoad; split
  · exact s.refusePlan_within _
  · exact s.forcePlan_within _

theorem State.planReadStored_within (s : State) (l : Load) (i : Nat) (ws : List Word) :
    Within s (s.planReadStored l i ws) := by
  unfold State.planReadStored; dsimp only; split
  · exact (s.modLoader_within _).trans (State.submitPlanRead_inner _ _ _).within
  · split
    · exact (s.modLoader_within _).trans (State.endLoad_within _ _)
    · exact s.modLoader_within _

theorem State.planRead_within (s : State) (serial i : Nat) (code : DownCode) (ws : List Word) :
    Within s (s.planRead serial i code ws) := by
  unfold State.planRead; split
  · exact .refl s
  · cases code
    · exact s.planReadStored_within _ i ws
    · exact s.refusePlan_within _

/-! ### Notices and the effects of a transfer -/

theorem State.deliver_within (s : State) (n : Notice) : Within s (s.deliver n) := by
  cases n with
  | plan serial => exact s.planNoticed_within serial
  | fetch l i f => exact (s.fetchNoticed_commSide l i f).toInner.within
  | release r e => exact (s.releaseNoticed_inner r e).within

theorem State.triggerEffect_within (s : State) (ts : List Touch) (r : WordRef) (w : Word) :
    Within s (s.triggerEffect ts r w).1 := by
  cases r with
  | planSequence => exact s.modLoader_within fun p => p.trigger w
  | mode l =>
    simp only [State.triggerEffect]; split
    · exact .refl s
    · exact (s.requestMode_linkSide l _).toInner.within
  | abortAll l => exact (s.abortSends_linkSide l).toInner.within
  | request l i =>
    simp only [State.triggerEffect, State.slotRequest]; split
    · exact (s.requestFetch_linkSide l i _).toInner.within
    · split
      · simp only [State.answerRequest]; split
        · exact (s.armNow_linkSide l i _).toInner.within
        · exact (s.requestFetch_linkSide l i _).toInner.within
      · exact (s.abortSlot_linkSide l i).toInner.within
  | _ => exact .refl s

theorem State.blockEffect_driveSide (s j : State) (ts : List Touch) (c : ChanId) : DriveSide s (s.blockEffect j ts c) := by
  unfold State.blockEffect; split
  · exact s.refuse_driveSide c _ _ _
  · split
    · exact s.refuse_driveSide c _ _ _
    · exact s.applyCommand_driveSide c _ _

theorem State.beatEffect_within (j : State) (ts : List Touch) (acc : State × List Notice) (x : Touch) :
    Within acc.1 (j.beatEffect ts acc x).1 := by
  unfold State.beatEffect; split
  · split
    · exact (acc.1.blockEffect_driveSide j ts _).toInner.within
    · exact .refl _
  · split
    · exact acc.1.triggerEffect_within ts _ _
    · exact .refl _

theorem State.beatEffects_within (j : State) (ts l : List Touch) (acc : State × List Notice) :
    Within acc.1 (l.foldl (j.beatEffect ts) acc).1 := by
  induction l generalizing acc with
  | nil => exact .refl _
  | cons x l ih => exact (State.beatEffect_within j ts acc x).trans (ih _)

theorem State.writeEffects_within (s : State) (ts : List Touch) : Within s (s.writeEffects ts).1 :=
  State.beatEffects_within s ts ts (s, [])

/-- A counter set again does not touch the spine or the path, but for WITHHELD itself. -/
theorem TakeCounter.set_path (k : TakeCounter) (v : Counter) (s : State) :
    (k.set v s).path = s.path ∧ (k.set v s).pending = s.pending ∧ (k.set v s).inReset = s.inReset
      ∧ (k.set v s).planSel = s.planSel ∧ (k.set v s).loader = s.loader := by
  cases k with
  | link l k => cases k <;> exact ⟨rfl, rfl, rfl, rfl, rfl⟩
  | _ => exact ⟨rfl, rfl, rfl, rfl, rfl⟩

theorem State.takeWords_kept (s : State) (ws : List Nat) :
    (s.takeWords ws).path = s.path ∧ (s.takeWords ws).pending = s.pending ∧ (s.takeWords ws).inReset = s.inReset
      ∧ (s.takeWords ws).planSel = s.planSel ∧ (s.takeWords ws).loader = s.loader := by
  have h : ∀ (l : List TakeCounter) (t : State),
      (l.foldl (fun t k => t.takeCounter (k.get s) k) t).path = t.path
      ∧ (l.foldl (fun t k => t.takeCounter (k.get s) k) t).pending = t.pending
      ∧ (l.foldl (fun t k => t.takeCounter (k.get s) k) t).inReset = t.inReset
      ∧ (l.foldl (fun t k => t.takeCounter (k.get s) k) t).planSel = t.planSel
      ∧ (l.foldl (fun t k => t.takeCounter (k.get s) k) t).loader = t.loader := by
    intro l
    induction l with
    | nil => intro t; exact ⟨rfl, rfl, rfl, rfl, rfl⟩
    | cons k l ih =>
      intro t
      have := ih (t.takeCounter (k.get s) k)
      have hk := TakeCounter.set_path k (k.get t - k.get s) t
      simp only [List.foldl_cons]
      exact ⟨this.1.trans hk.1, this.2.1.trans hk.2.1, this.2.2.1.trans hk.2.2.1, this.2.2.2.1.trans hk.2.2.2.1,
        this.2.2.2.2.trans hk.2.2.2.2⟩
  exact h _ s

/-- The effects of a transfer keep the memory path but for submissions. -/
theorem State.takeEffects_path (s : State) (t : Transfer) : s.path.grows (s.takeEffects t).1.path := by
  unfold State.takeEffects; split
  · simp only [State.readActions]
    rw [State.latentFetch_path, (State.takeWords_kept _ _).1]
    exact Path.grows_refl _
  · exact (s.writeEffects_within _).path

theorem State.takeEffects_pending (s : State) (t : Transfer) :
    (s.takeEffects t).1.pending = s.pending ∧ (s.takeEffects t).1.inReset = s.inReset
      ∧ (s.takeEffects t).1.planSel = s.planSel := by
  unfold State.takeEffects; split
  · simp only [State.readActions]
    have h := State.latentFetch_commSide (s.takeWords (liveCovered (s.refsOf t))) (echoCovered (s.refsOf t))
    have k := State.takeWords_kept s (liveCovered (s.refsOf t))
    exact ⟨h.pending.trans k.2.1, h.inReset.trans k.2.2.1, h.planSel.trans k.2.2.2.1⟩
  · have h := s.writeEffects_within (s.touches t)
    exact ⟨h.pending, h.inReset, h.planSel⟩

/-- Settling delivers notices and nothing else: the order list keeps its entries, those settled without notices. -/
theorem State.settle_within (s : State) : Within (s.modPath Path.clearSettled) s.settle :=
  Within.foldl _ State.deliver_within _ _

/-- A transfer is taken onto the end of the list (R1): its decisions and snapshot are those of the state before it, and an
event follows that keeps the path but for submissions. -/
theorem State.taking_path (s : State) (t : Transfer) : ∃ rs,
    (s.taking t).path = { Path.clearSettled
      { s.path with orderList := s.path.orderList
          ++ [newEntry t (s.dispositions t) (s.snapshotOf t) (s.takeEffects t).2] } with staged := s.path.staged ++ rs } := by
  obtain ⟨r1, h1⟩ := s.takeEffects_path t
  obtain ⟨r2, h2⟩ := (State.settle_within ((((s.takeEffects t).1.captureWithheld t (s.dispositions t))).modPath fun p =>
    { p with orderList := p.orderList ++ [newEntry t (s.dispositions t) (s.snapshotOf t) (s.takeEffects t).2] })).path
  refine ⟨r1 ++ r2, ?_⟩
  have h3 : s.taking t = State.settle (((s.takeEffects t).1.captureWithheld t (s.dispositions t)).modPath fun p =>
    { p with orderList := p.orderList ++ [newEntry t (s.dispositions t) (s.snapshotOf t) (s.takeEffects t).2] }) := rfl
  rw [h3, h2]
  simp only [State.modPath_path, State.captureWithheld_path, h1]
  simp [Path.clearSettled, Path.settled]

end Sys2Proof.Machine
end

