-- ==== Sys2Proof/Laws/Helm.lean ====
section
/-! SUPPORT. What the idle step and the ring operations leave alone, once for every later proof. -/

namespace Sys2Proof.Machine

/-! ### HELM_TX -/

/-- Ten bit-times a byte (R174). -/
@[simp] theorem helmBits_length (b : Byte) : (helmBits b).length = 10 := rfl

@[simp] theorem SendingFrame.bitTime_rate (f : SendingFrame) : f.bitTime.rate = f.rate := by
  unfold SendingFrame.bitTime; split
  · rfl
  · split <;> rfl

@[simp] theorem Repeater.bitTime_cycle (r : Repeater) : r.bitTime.cycle = r.cycle := rfl
@[simp] theorem Repeater.bitTime_position (r : Repeater) : r.bitTime.position = r.position := rfl
@[simp] theorem Repeater.bitTime_number (r : Repeater) : r.bitTime.number = r.number := rfl
@[simp] theorem Repeater.bitTime_timer (r : Repeater) : r.bitTime.timer = r.timer := rfl

/-- The idle step changes the Repeater alone (log 3). -/
theorem State.idle_eq (s : State) : s.idle = { s with repeater := s.idle.repeater } := by
  unfold State.idle State.modRepeater; split <;> rfl

@[simp] theorem State.idle_pending (s : State) : s.idle.pending = s.pending := by rw [s.idle_eq]
@[simp] theorem State.idle_path (s : State) : s.idle.path = s.path := by rw [s.idle_eq]
@[simp] theorem State.idle_chans (s : State) : s.idle.chans = s.chans := by rw [s.idle_eq]
@[simp] theorem State.idle_prots (s : State) : s.idle.prots = s.prots := by rw [s.idle_eq]
@[simp] theorem State.idle_ringWriter (s : State) : s.idle.ringWriter = s.ringWriter := by rw [s.idle_eq]
@[simp] theorem State.idle_routers (s : State) : s.idle.routers = s.routers := by rw [s.idle_eq]

/-- The idle step keeps what the three invariants speak of. -/
theorem State.idle_driveSound (s : State) : s.idle.driveSound = s.driveSound := by rw [s.idle_eq]; rfl
theorem State.idle_ringsSound (s : State) : s.idle.ringsSound = s.ringsSound := by rw [s.idle_eq]; rfl

/-- HELM_TX is high while RESET_N is asserted (R177). -/
theorem State.helmTx_of_inReset (s : State) (h : s.inReset = true) : s.helmTx = true := by simp [State.helmTx, h]

/-! ### One ring (R94) -/

/-- Freeing keeps the length, the head, the reserved count and the OVERFLOWS of a ring. -/
theorem Ring.freeRun_keeps (n : Nat) (g : Ring) :
    (g.freeRun n).length = g.length ∧ (g.freeRun n).head = g.head ∧ (g.freeRun n).reserved = g.reserved
      ∧ (g.freeRun n).overflows = g.overflows ∧ (g.freeRun n).conds.length = g.conds.length := by
  induction n generalizing g with
  | zero => exact ⟨rfl, rfl, rfl, rfl, rfl⟩
  | succ n ih =>
    unfold Ring.freeRun; split
    · obtain ⟨a, b, c, d, e⟩ := ih g.freeOldest
      exact ⟨a, b, c, d, e.trans (by simp [Ring.freeOldest])⟩
    · exact ⟨rfl, rfl, rfl, rfl, rfl⟩

/-- A release keeps the length, the head, the reserved count and the OVERFLOWS of its ring (R101). -/
theorem Ring.release_keeps (g : Ring) (i : Nat) :
    (g.release i).length = g.length ∧ (g.release i).head = g.head ∧ (g.release i).reserved = g.reserved
      ∧ (g.release i).overflows = g.overflows ∧ (g.release i).conds.length = g.conds.length := by
  unfold Ring.release; split
  · split
    · obtain ⟨a, b, c, d, e⟩ := Ring.freeRun_keeps g.length g.freeOldest
      exact ⟨a, b, c, d, e.trans (by simp [Ring.freeOldest])⟩
    · exact ⟨rfl, rfl, rfl, rfl, rfl⟩
  · exact ⟨rfl, rfl, rfl, rfl, rfl⟩

/-- An abandonment keeps the length, the head and the OVERFLOWS of its ring, and lowers the reserved count by one (R99). -/
theorem Ring.abandon_keeps (g : Ring) (i : Nat) :
    (g.abandon i).length = g.length ∧ (g.abandon i).head = g.head ∧ (g.abandon i).reserved = g.reserved - 1
      ∧ (g.abandon i).overflows = g.overflows ∧ (g.abandon i).conds.length = g.conds.length := by
  unfold Ring.abandon; split
  · obtain ⟨a, b, c, d, e⟩ := Ring.freeRun_keeps g.length
      { g with conds := g.conds.set i .free, reserved := g.reserved - 1, oldest := g.after g.oldest }
    exact ⟨a, b, c, d, e.trans (by simp)⟩
  · exact ⟨rfl, rfl, rfl, rfl, by simp [Ring.fill]⟩

end Sys2Proof.Machine
end

