-- ==== Sys2Proof/Laws/Terms.lean ====
section
/-! SUPPORT. The terms of the claims as the model's own operations: the record of a trip, the poll sender's ASK, the reads of a
memory range, the motor outputs. -/

namespace Sys2Proof.Machine

/-- The record of Table 8-2 is the one a trip creates. -/
theorem State.tripRecord_eq_tripOf (s : State) (c : ChanId) (cause : TripCause) :
    s.tripRecord c cause = s.tripOf c cause := by
  unfold State.tripRecord State.tripOf
  cases h : (s.chan c).state <;> simp [h, ChanState.measured, ChanState.moving, ChanState.driven, State.now]

/-- A trip is the tripped state, its alarm request, and the guards judged afresh. -/
theorem State.takeTrip_eq (s : State) (c : ChanId) (cause : TripCause) :
    s.takeTrip c cause = ((s.trippedBy c cause).alarmRequest c).reevaluate := by
  unfold State.takeTrip
  rw [s.tripRecord_eq_tripOf]
  rfl

/-- A poll sender that has taken an entry is the one that has enqueued its ASK. -/
theorem State.enqueueAsk_eq_withAsk (s : State) (l : LinkId) (p : PollId) :
    (s.sender l).enqueueAsk p (((s.pollSettings p).map (·.tag)).getD 0) (s.linkSettings l).pollPriority = s.withAsk l p := rfl

/-- The reads of a memory range are those of its covering words, in order. -/
theorem rangeReads_eq_cover (g : Nat) (start : Addr) (len : Nat) :
    rangeReads g start len =
      (List.range (coverReads (coverWords start len)).length).map fun k =>
        (⟨.repeaterRead g k, false, coverStart start + BitVec.ofNat 40 (64 * k),
          (coverReads (coverWords start len)).getD k 0, []⟩ : Request) := by
  unfold rangeReads coverReads coverWords coverStart
  dsimp only
  split <;> simp [List.range_succ]

/-- A channel that does not move has every output off. -/
theorem Channel.outputs_of_not_moving {ch : Channel} (h : ch.state.moving = false) : ch.outputs = (false, false, 0) := by
  unfold Channel.outputs
  rw [show ch.state.driven = none from by simpa [ChanState.moving] using h]

/-- A channel that moves has the line of its direction on and its duty on the enable line. -/
theorem Channel.outputs_of_driven {ch : Channel} {d : Dir} (h : ch.state.driven = some d) :
    ch.outputs = (d == .outward, d == .inward, ch.duty) := by
  unfold Channel.outputs
  rw [h]
  cases d <;> rfl

end Sys2Proof.Machine
end

