-- ==== Sys2Proof/Tests/Slice0.lean ====
section
/-! SUPPORT. The model's own tests: each check of well-formedness refuses an ill-formed command, and for every claim with
hypotheses a concrete state and operands that meet them all (`meets_…`), beside a few single steps. -/

namespace Sys2Proof.Tests

open Sys2Proof.Machine

/-! ### Well-formedness -/

theorem test_wf_read : (Instr.upstreamTransferTaken ⟨3, 0x1000, .read 16⟩).wellFormed = true := by decide

theorem test_ill_no_beat : (Instr.upstreamTransferTaken ⟨3, 0x1000, .write []⟩).wellFormed = false := by decide

theorem test_ill_seventeen_beats : (Instr.upstreamTransferTaken ⟨3, 0x1000, .read 17⟩).wellFormed = false := by decide

theorem test_ill_unaligned : (Instr.upstreamTransferTaken ⟨3, 0x1002, .read 1⟩).wellFormed = false := by decide

theorem test_ill_latent_fetch : (Instr.latentFetch 0 0 3).wellFormed = false := by decide

theorem test_ill_take : (Instr.take 0 17 3).wellFormed = false := by decide

theorem test_ill_formed_refused :
    exec (.upstreamTransferTaken ⟨3, 0x1002, .read 1⟩) State.reset = .refused .illFormed := rfl

/-! ### A plan and the states built on it -/

/-- One window of each kind, a ring of 4, a sieve, a poll entry, two channels, a binding, an interlock and two sources. -/
def plan : Plan :=
  { Plan.empty with
    attentionMask := 0xFFF
    lineMode := .pulse
    windows := #v[some ⟨.post 0, 0x20000000⟩, some ⟨.gather 1, 0x20002000⟩, some ⟨.echo .active, 0x20003000⟩,
      some ⟨.live .active, 0x20005000⟩, some ⟨.drive, 0x20006000⟩, none, none, none, none, none, none, none]
    links := Vector.replicate 2 ⟨.kbit125, .auto, 3, 2⟩
    rings := update Plan.empty.rings 1 fun _ => ⟨4, true⟩
    sieves := update Plan.empty.sieves 0 fun v => update v 2 fun _ => some ⟨7, .ring 1, 0, 0⟩
    poll := update Plan.empty.poll 9 fun _ => some ⟨0, .ask, 0xB40, 50, 2000, 1000⟩
    drives := #v[some ⟨16, 300, .cut, .inward, 1000, 120, 1000, 400, 600, -100, 100, some (0, 7), 40⟩,
      some ⟨16, 300, .warn, .inward, 1000, 120, 0, 400, 600, -100, 100, none, 0⟩, none]
    bindings := update Plan.empty.bindings 1 fun v => update v 0 fun _ => some ⟨1, 0xD10⟩
    interlocks := update (update Plan.empty.interlocks 0 fun _ => some ⟨1, .both, .still 0⟩) 1 fun _ =>
      some ⟨0, .both, .value 9 0 255 5⟩
    repeater := ⟨.bit19200, 100, [.presented .counters, .memory 0x50000006 10]⟩ }

/-- The guard results of the conditions as they stand. -/
def judged (s : State) : State := { s with guards := s.guardResults }

/-- The part under `plan`, with a value of 5 held by poll entry 9. -/
def base : State :=
  judged
    { State.reset with
      loader := { PlanLoader.reset with state := .inForce, plan := plan, inForce := 7, attempted := 7 }
      ringWriter := { RingWriter.reset with rings := update RingWriter.reset.rings 1 fun g => g.resize 4 }
      poll := { PollUnit.reset with
        entries := update PollUnit.reset.entries 9 fun e => e.store [5] 0 (some 2001) }
      repeater := { Repeater.reset with cycle := .idle, timer := some 0 } }

/-- Link 0 of `base` changed. -/
def linked (f : LinkCtl → LinkCtl) : State := base.modLink 0 f

/-- A transmit slot of link 0 changed as well. -/
def slotted (s : State) (i : SlotId) (f : Slot → Slot) : State := s.modSlot 0 i f

/-- A message whose Tag begins with a recessive bit. -/
def msg : Message := ⟨0x8001, .data, 1, [0x5A]⟩

/-- A slot that holds that message on the wire. -/
def onWire (sl : Slot) : Slot := { sl with state := .onWire, body := some ⟨1, .data, 1, 0x8001, [0x5A]⟩, acceptance := 1 }

/-- Link 0 in RUN sending the message of slot 2, of which nothing has gone yet. -/
def sending : State :=
  slotted (linked fun k => { k with mode := .run, phase := .sending, item := some ⟨.slot 2, msg, msg.levels, true⟩ }) 2 onWire

/-- Link 0 in a mode, receiving after a start mark. -/
def receiving (m : Mode) : State :=
  linked fun k => { k with mode := m, phase := .receiving, assembly := Assembly.empty.push .dominant }

/-- `n` recessive bit-times. -/
def quietLevels (n : Nat) : List Level := List.replicate n .recessive

/-- Every level of the message's paced part. -/
def msgPaced : List Level := paced 0 msg.pacedPart

/-- The same with the last check bit wrong. -/
def badPaced : List Level := paced 0 (.dominant :: (msg.coveredBits ++ bitsOf 16 (msg.check ^^^ 1).toNat))

/-- A channel at rest in a state. -/
def rested (c : ChanId) (st : ChanState) : State := judged (base.modChan c fun ch => ch.rest st)

/-- D0 driven outward toward 100 from 0, past its ramp. -/
def driven : State :=
  judged ((base.modChan 0 fun ch =>
      { ch with
        state := .driveOut, source := .deck0, duty := 50, lastDir := some .outward
        motion := some ⟨.goto, .outward, 50, some 100, 60, 0, 0⟩ }).modProt 0 fun k =>
    { k with stallExpiry := some 0, runExpiry := some 0, holdExpiry := some 0, onset := some 0 })

/-- D0 tripped by its run time. -/
def tripped : State :=
  (rested 0 .tripped).modProt 0 fun k => { k with trip := some ⟨.runtime, some .outward, .zone, 0, 0, 0, 0⟩ }

/-- D0 in its stop dwell. -/
def stopping : State :=
  judged (base.modChan 0 fun ch => { ch with state := .stopping, dwellEnd := some 0, lastDir := some .outward })

/-- A command block's fields. -/
def fields (target : Int) : CommandFields := ⟨50, 0, BitVec.ofInt 32 target, 0⟩

/-- An internal transfer in flight, with a state that waits for it. -/
def inFlight (s : State) (p : Purpose) (w : Bool) (beats : Nat) : State :=
  s.modPath fun q => { q with inFlight := [⟨p, w, 0x1000, beats, []⟩] }

/-- A plan load in flight, reading. -/
def loading (next outstanding : Nat) (v : Word) (page : Page) : State :=
  base.modLoader fun p => { p with state := .loading, load := some ⟨0, v, .reading, next, outstanding, page⟩, loadSerial := 1 }

/-- Sixteen words of zeros, and the same with the signature first. -/
def zeroWords : List Word := List.replicate 16 0
def signedWords : List Word := 0x50365A54 :: List.replicate 15 0

/-- An order entry of one beat with one piece. -/
def entry (w : Bool) (st : PieceState) (ns : List Notice) : OrderEntry :=
  ⟨3, w, 0x1000, 1, [.pass], [], [⟨0, 1, [], st, .okay, []⟩], ns⟩

/-- `base` with an order list. -/
def listed (es : List OrderEntry) : State := base.modPath fun p => { p with orderList := es }

/-- The ring entry being written: entry 0 of ring 1, reserved. -/
def writing (marker : Bool) (waits : List Handoff) : State :=
  ((base.modRing 1 Ring.reserve).modRingWriter fun w => { w with writing := some ⟨⟨0, 1, 0, 2, msg, .none, 0⟩, marker⟩ }).modRouter
    0 fun q => { q with handoff := waits }

/-! ### The claims' hypotheses are met: steps, reset, the memory path -/

theorem meets_WellFormedCommandCompletes :
    Instr.downstreamGrant.wellFormed = true ∧ exec .downstreamGrant State.reset = .next State.reset := ⟨by decide, rfl⟩

/-- With no command waiting, a step after reset changes nothing: no frame is on HELM_TX. -/
theorem test_idle_after_reset : step State.reset = .next State.reset := rfl

theorem meets_ResetAndTick :
    (base.startReset 3).inReset = true ∧ (base.startReset 3).path = { Path.reset with port := base.path.port }
      ∧ base.path.port = [] ∧ base.inReset = false
      ∧ driven.running = true ∧ (driven.chan 0).motion.isSome = true ∧ (driven.chan 1).motion = none := by
  decide

/-- A read of one word of plain memory. -/
def plainRead : Transfer := ⟨3, 0x1000, .read 1⟩

theorem meets_TransferTakenOrWaits :
    plainRead.wf = true ∧ base.takesNow = true ∧ (∀ r ∈ base.refsOf plainRead, r.wordClass = .plain)
      ∧ (base.startReset 0).inReset = true
      ∧ (listed (List.replicate 16 (entry true .unissued []))).path.orderList.length = 16
      ∧ (listed (List.replicate 16 (entry true .unissued []))).path.staged = [] := by decide

/-- A write whose second beat is the plan status word. -/
def statusWrite : Transfer := ⟨3, planBase 0 + 4, .write [emptyBeat, fullBeat 0]⟩

theorem meets_WithheldWriteCaptured :
    statusWrite.wf = true ∧ isWriteTransfer statusWrite = true ∧ base.takesNow = true
      ∧ (base.dispositions statusWrite).findIdx? (· == .withhold) = some 1 := by decide

/-- One waiting request and one waiting piece. -/
def bothWait (last : Stream) : State :=
  (listed [entry true .unissued []]).modPath fun p =>
    { p with queue := [⟨.ringBody, true, 0x2000, 7, []⟩], lastGrant := last }

theorem meets_GrantAlternates :
    (bothWait .passed).running = true ∧ (bothWait .passed).path.queue = [⟨.ringBody, true, 0x2000, 7, []⟩]
      ∧ (bothWait .passed).path.lastGrant = .passed
      ∧ (bothWait .internal).path.waitingPiece = some (0, 0) ∧ (bothWait .internal).path.lastGrant = .internal
      ∧ (bothWait .internal).path.orderList[0]? = some (entry true .unissued [])
      ∧ base.path.waitingPiece = none ∧ base.path.queue = [] := by decide

theorem meets_PieceAnswerRecorded :
    (listed [entry false .issued []]).running = true
      ∧ (listed [entry false .issued []]).path.orderList[0]? = some (entry false .issued [])
      ∧ (entry false .issued []).pieces[0]? = some ⟨0, 1, [], .issued, .okay, []⟩
      ∧ (entry true .issued []).isWrite = true ∧ [7#32].length = 1
      ∧ (∀ x ∈ (listed [entry false .issued []]).path.orderList, x.notices = [])
      ∧ (((listed [entry true .issued [.release 1 0]]).pieceAnswered 0 0 .okay []).path.orderList.map (·.notices)) = [[]] := by
  decide

theorem meets_ReadyHeadLeaves :
    (listed [entry true .answered []]).running = true ∧ (entry true .answered []).ready = true
      ∧ (listed [entry true .answered []]).path.port = [] ∧ base.path.readyHead = none
      ∧ ((listed [entry true .answered []]).modPath fun p => { p with port := [plainRead] }).running = true
      ∧ (∃ p ∈ [(⟨0, 1, [], .answered, .memerr, []⟩ : Piece)], p.code = .memerr)
      ∧ (∀ p ∈ (entry true .answered []).pieces, p.code ≠ .memerr) ∧ .withhold ∉ (entry true .answered []).dispositions
      ∧ .withhold ∈ [Disposition.withhold] := by
  decide

theorem meets_PathSoundKept :
    base.path.sound = true ∧ step { base with pending := [.attentionPulseEnd] } = .next base := by
  refine ⟨by decide, ?_⟩
  rfl

/-! ### The Plan Loader -/

/-- The first read of a load that has submitted two. -/
def readingPage : State := inFlight (loading 2 2 1 Page.empty) (.planRead 0 0) false 16

theorem meets_AnsweredTriggerDeliversNotice :
    (let s := (base.modLoader fun p => { p with load := some ⟨0, 1, .awaitingNotice, 0, 0, Page.empty⟩ }).modPath fun p =>
      { p with orderList := [entry true .issued [.plan 0]] }
    s.running = true ∧ s.path.queue = [] ∧ s.path.waitList = []
      ∧ s.loader.load = some ⟨0, 1, .awaitingNotice, 0, 0, Page.empty⟩ ∧ s.path.orderList = [entry true .issued [.plan 0]])
      ∧ (let s := (slotted base 2 fun sl => { sl with state := .fetching, fetch := some 5 }).modPath fun p =>
      { p with orderList := [entry true .issued [.fetch 0 2 5]] }
    s.running = true ∧ s.plan.windowAddr (.post 0) (64 + 32 * 2) = some 0x20000080 ∧ (s.slot 0 2).state = .fetching
      ∧ (s.slot 0 2).fetch = some 5 ∧ (s.slot 0 3).state ≠ .fetching
      ∧ (s.pieceAnswered 0 0 .okay []).path.staged = [⟨.fetch 0 2 5, false, 0x20000080, 8, []⟩]) := by
  decide

/-- A page of zeros but for the signature. -/
def barePage : Page := Vector.replicate 64 zeroWords |>.set 0 signedWords

/-- The last read of that page. -/
def lastRead : State := inFlight (loading 64 1 1 barePage) (.planRead 0 63) false 16

theorem meets_PlanReadStoresOrEndsLoad :
    readingPage.running = true ∧ readingPage.path.inFlight[0]? = some ⟨.planRead 0 0, false, 0x1000, 16, []⟩
      ∧ zeroWords.length = 16 ∧ readingPage.loader.load = some ⟨0, 1, .reading, 2, 2, Page.empty⟩
      ∧ lastRead.running = true ∧ lastRead.path.inFlight[0]? = some ⟨.planRead 0 63, false, 0x1000, 16, []⟩
      ∧ lastRead.loader.load = some ⟨0, 1, .reading, 64, 1, barePage⟩
      ∧ lastRead.checkPlan (barePage.set 63 zeroWords) 1 = none
      ∧ lastRead.checkPlan (barePage.set 0 zeroWords) 1 = some ⟨.signature, .header, 0⟩ := by
  decide

theorem meets_SignatureCheckedFirst :
    pageNat Page.empty 0 4 ≠ 0x50365A54 ∧ pageNat barePage 0 4 = 0x50365A54
      ∧ (base.checkPlan barePage 0).map (·.reason) = some .range := by decide

/-- Slot 2 of link 0 ARMED. -/
def armed : State := slotted base 2 fun sl => { sl with state := .armed, armedTag := some 0xC21, purpose := .answer }

theorem meets_PlanIntoForceResets :
    base.ringMoves Plan.empty 1 = true ∧ base.ringMoves Plan.empty 0 = false
      ∧ (base.pollSettings 9).isSome ≠ (look Plan.empty.poll 9).isSome ∧ base.pollSettings 8 = look Plan.empty.poll 8
      ∧ (armed.slot 0 2).state = .armed ∧ (armed.sender 0).queue = []
      ∧ armed.plan.windowBase (.post 0) ≠ Plan.empty.windowBase (.post 0)
      ∧ ((armed.forcePlan Plan.empty).slot 0 2).state = .idle
      ∧ (armed.forcePlan plan).slot 0 2 = armed.slot 0 2 := by decide +kernel

theorem meets_PlanIntoForceJudgesChannels :
    ((rested 1 .ready).chan 1).state = .ready ∧ look Plan.empty.drives 1 = none
      ∧ (((rested 1 .ready).forcePlan Plan.empty).chan 1).state = .safe
      ∧ ((driven.modPoll 9 fun e => { e with value := none }).forcePlan plan).hasCause .stopped = true
      ∧ (driven.forcePlan plan).chan 0 = driven.chan 0
      ∧ Plan.empty.repeater.period = 0 ∧ plan.repeater.period ≠ 0 := by decide

/-! ### Mode requests -/

theorem meets_ModeRequestCompletes :
    base.takesNow = true ∧ base.plan.windowAddr (.post 0) 0 = some 0x20000000 ∧ base.sees 0x20000000 (.mode 0) = true
      ∧ (base.link 0).busy = false ∧ (base.link 0).acceptsMode .run = true ∧ (base.link 0).mode ≠ .mirror
      ∧ ((receiving .run).link 0).busy = false ∧ ((receiving .run).link 0).acceptsMode .quiet = true := by decide

theorem meets_ModeRequestWaitsOrIsWithheld :
    sending.takesNow = true ∧ sending.plan.windowAddr (.post 0) 0 = some 0x20000000
      ∧ sending.sees 0x20000000 (.mode 0) = true ∧ (sending.link 0).busy = true
      ∧ (sending.link 0).acceptsMode .quiet = true
      ∧ (base.link 0).acceptsMode .quiet = false := by
  decide

/-! ### The deck lines -/

/-- Link 0 in RUN waiting for a quiet gap, with slot 2 queued. -/
def waiting : State :=
  (linked fun k => { k with mode := .run, phase := .gapWait }).modSender 0 fun c =>
    { c with
      slots := update c.slots 2 fun sl => { onWire sl with state := .queued }
      queue := [⟨.slot 2, 1, 1⟩] }

/-- Link 0 SILENT and armed, one gap before its recovery. -/
def silent : State :=
  linked fun k =>
    { k with mode := .run, phase := .gapWait, health := .silent, score := 160, recoveryArmed := true, recoveryGaps := 63 }

theorem meets_GapsStartMarksAndWakes :
    waiting.running = true ∧ waiting.brings 0 (quietLevels 12) .gap = true ∧ (waiting.link 0).lastGap = false
      ∧ (waiting.sender 0).queue = [⟨.slot 2, 1, 1⟩] ∧ (waiting.after 0 (quietLevels 12)).health = .active
      ∧ silent.brings 0 (quietLevels 12) .gap = true ∧ (silent.link 0).lastGap = true
      ∧ (silent.sender 0).queue = []
      ∧ (linked fun k => { k with mode := .run, phase := .idle }).brings 0 [.dominant] .startMark = true
      ∧ (linked fun k => { k with mode := .quiet, gapCount := 12 }).brings 0 [.dominant] .wake = true := by
  decide

theorem meets_ArbitrationLossCostsNoAttempt :
    sending.running = true ∧ sending.brings 0 [.dominant, .dominant] .lost = true ∧ (sending.link 0).mode = .run
      ∧ (sending.after 0 [.dominant, .dominant]).pendingMode = none
      ∧ (sending.after 0 [.dominant, .dominant]).item.map (·.ref) = some (.slot 2)
      ∧ (sending.slot 0 2).abortMark = false := by decide

set_option maxRecDepth 20000 in
theorem meets_MessageSentEndsItem :
    sending.brings 0 (msgPaced ++ .dominant :: quietLevels 7) .sentOk = true ∧ (sending.link 0).pendingMode = none
      ∧ (sending.slot 0 2).purpose ≠ .answer := by decide

set_option maxRecDepth 20000 in
theorem meets_ErrorsScoreAndMark :
    (receiving .run).running = true ∧ ((receiving .run).link 0).health ≠ .silent
      ∧ (receiving .run).brings 0 (List.replicate 8 .dominant) .shape = true
      ∧ (receiving .run).brings 0 badPaced.tail .check = true
      ∧ sending.brings 0 (msgPaced ++ [.recessive]) .noConfirm = true
      ∧ sending.brings 0 [.recessive] .clash = true := by decide

theorem meets_StuckAndMarkEndFailItem :
    sending.running = true
      ∧ (waiting.brings 0 (List.replicate 48 .dominant) .stuck = true ∧ (waiting.link 0).pendingMode = none)
      ∧ (sending.modLink 0 LinkCtl.mark).brings 0 (List.replicate 8 .dominant) .markEnd = true
      ∧ ((sending.modLink 0 LinkCtl.mark).after 0 (List.replicate 8 .dominant)).item.map (·.ref) = some (.slot 2)
      ∧ (sending.slot 0 2).abortMark = false ∧ (sending.linkSettings 0).retryLimit = 3 := by decide

set_option maxRecDepth 20000 in
theorem meets_MessageReceivedIsCaptured :
    (receiving .listen).running = true
      ∧ (receiving .listen).brings 0 (msgPaced.tail ++ .dominant :: quietLevels 7) .receivedOk = true
      ∧ ((receiving .listen).after 0 (msgPaced.tail ++ .dominant :: quietLevels 7)).assembly.message = msg := by
  decide

/-- Link 0 in MIRROR with slot 2 queued, and with its message being mirrored. -/
def mirroring : State := waiting.modLink 0 fun k => { k with mode := .mirror, phase := .detached }
def mirrored : State := mirroring.modLink 0 fun k => { k with item := some ⟨.slot 2, msg, [], true⟩ }

theorem meets_MirrorTakesAndEndsMessage :
    mirroring.running = true ∧ (mirroring.link 0).mode = .mirror ∧ (mirroring.link 0).item = none
      ∧ (mirroring.link 0).mirrorGap = false ∧ (mirroring.sender 0).queue = [⟨.slot 2, 1, 1⟩]
      ∧ (mirrored.link 0).item = some ⟨.slot 2, msg, [], true⟩ ∧ (mirrored.link 0).pendingMode = none
      ∧ (mirrored.slot 0 2).purpose ≠ .answer ∧ ((mirrored.mirroredEnds 0 msg).slot 0 2).state = .sent := by decide

theorem meets_SentMessageIsReadBack : msg.wf = true := by decide

set_option maxRecDepth 20000 in
theorem test_read_back :
    Assembly.message (Assembly.empty.read (msgPaced ++ .dominant :: quietLevels 7)).2.1 = msg := by decide

/-! ### Routing -/

theorem meets_SievedMessageIsAdmitted :
    base.bindingFor 0 msg.tag = none ∧ base.hearFor 0 msg.tag = none ∧ base.sieveFor 0 msg = some (2, .ring 1)
      ∧ (base.router 0).handoff.length < 2 ∧ (base.ring 1).pending + (base.ring 1).reserved < (base.ring 1).length
      ∧ (writing false []).ringWriter.writing.isSome = true
      ∧ ((writing false []).ring 1).pending + ((writing false []).ring 1).reserved < 4
      ∧ base.ringWriter.writing = none ∧ (base.router 0).handoff = [] ∧ (base.router 1).handoff = []
      ∧ base.plan.windowAddr (.gather 1) (32 * (base.ring 1).head + 4) = some 0x20002004 := by decide

/-- The part under `plan` with poll entry 9 in HEAR and no binding. -/
def hearing : State :=
  base.modLoader fun p => { p with plan := { plan with poll := update plan.poll 9 fun e => e.map fun k => { k with mode := .hear } } }

theorem meets_RoutingEnds :
    base.sieveFor 1 msg = none ∧ base.bindingFor 1 0xD10 = some 1
      ∧ (base.modPoll 9 fun e => { e with state := .late }).replyFor 0 0xB40 = some 9
      ∧ hearing.bindingFor 0 0xB40 = none ∧ hearing.hearFor 0 0xB40 = some 9 ∧ (hearing.pollSettings 9).isSome = true
      ∧ hearing.sieveFor 0 ⟨0xB40, .data, 1, [6]⟩ = some (2, .ring 1) ∧ (hearing.ringSettings 1).keepDamaged = true
      ∧ ((hearing.routeGood 0 ⟨0xB40, .data, 1, [6]⟩ 3).pollEntry 9).value = some [6] := by
  decide

/-! ### Sending -/

/-- The host fields of `msg`. -/
def hostWords : Vector Word 5 := #v[0x80010101, 0x5A, 0, 0, 0]

/-- Link 0 in RUN with nothing on its line. -/
def attached : State := linked fun k => { k with mode := .run, phase := .gapWait }

theorem meets_SendAndAnswerAccepted :
    attached.takesRequest 0 2 1 3 (some hostWords) = true ∧ attached.takesRequest 0 2 1 3 none = true
      ∧ attached.takesRequest 0 2 2 3 (some hostWords) = true ∧ (attached.slot 0 2).state = .idle
      ∧ (attached.link 0).mode ≠ .setup := by decide

theorem meets_AbortBySlotState :
    waiting.takesRequest 0 2 3 3 none = true ∧ (waiting.slot 0 2).state = .queued ∧ (sending.slot 0 2).state = .onWire
      ∧ sending.takesRequest 0 2 3 3 none = true ∧ (attached.slot 0 2).state = .idle := by decide

theorem meets_AbortAllEmptiesLink :
    waiting.takesNow = true ∧ waiting.plan.windowAddr (.post 0) 4 = some 0x20000004
      ∧ waiting.sees 0x20000004 (.abortAll 0) = true ∧ (waiting.slot 0 2).state = .queued
      ∧ ((base.modPollQueue 0 fun _ => [9]).pollQueue 0).contains 9 = true
      ∧ (((base.modSender 0 fun c => { c with pollAsk := some ⟨9, 0xB40, 2, 1, 0, false, false, false⟩ }).abortSends 0).pollEntry
        9).state = .unsent := by decide

/-- Slot 2 waiting for its fetch, for a purpose. -/
def fetching (p : SlotPurpose) : State :=
  inFlight (slotted attached 2 fun sl => { sl with state := .fetching, fetch := some 0, purpose := p }) (.fetch 0 2 0) false 8

/-- A record fetched with the host fields of `msg`. -/
def fetchedRecord : List Word := [1, 0, 0, 0x80010101, 0x5A, 0, 0, 0]

theorem meets_FetchCompletionByPurpose :
    (fetching .send).running = true ∧ (fetching .send).path.inFlight[0]? = some ⟨.fetch 0 2 0, false, 0x1000, 8, []⟩
      ∧ ((fetching .send).slot 0 2).state = .fetching ∧ ((fetching .send).slot 0 2).fetch = some 0
      ∧ ((fetching .send).link 0).canTake = false ∧ fetchedBody fetchedRecord = some ⟨1, .data, 1, 0x8001, 0x5A :: zeros 15⟩
      ∧ fetchedBody (0xFFFFFFFF :: List.replicate 7 0xFFFFFFFF) = none
      ∧ ((fetching .answer).slot 0 2).armedTag = none
      ∧ (((fetching .answer).modSlot 0 2 fun sl => { sl with armedTag := some 7 }).slot 0 2).armedTag = some 7 := by
  decide

theorem meets_StandingAnswersAndAlarms :
    (armed.slot 0 2).state = .armed ∧ (armed.slot 0 2).armedTag = some 0xC21
      ∧ armed.plan.windowAddr (.post 0) (64 + 32 * 2) = some 0x20000080
      ∧ ((armed.routeGood 0 ⟨0xC21, .ask, 16, []⟩ 0).slot 0 2).state = .fetching
      ∧ (((armed.routeGood 0 ⟨0xC21, .ask, 16, []⟩ 0).routeGood 0 ⟨0xC21, .ask, 16, []⟩ 0).sender 0).mergedAsks = 1
      ∧ (base.driveSettings 0).bind (·.alarm) = some (0, 7) ∧ ((attached.alarmRequest 0).slot 0 7).purpose = .alarm
      ∧ ((base.alarmRequest 0).chan 0).alarmsMerged = 1 ∧ (base.driveSettings 1).bind (·.alarm) = none := by decide

/-- Link 0 in RUN with the ASK of poll entry 9 on the wire, and entry 3 waiting in the request queue. -/
def asking : State :=
  ((linked fun k =>
    { k with
      mode := .run, phase := .sending
      item := some ⟨.poll, ⟨0xB40, .ask, 16, []⟩, Message.levels ⟨0xB40, .ask, 16, []⟩, true⟩ }).modSender 0 fun c =>
    { c with pollAsk := some ⟨9, 0xB40, 2, 1, 0, false, false, true⟩, acceptCount := 1 }).modPollQueue 0 fun _ => [3]

/-- Every level of that ASK's paced part. -/
def askPaced : List Level := paced 0 (Message.pacedPart ⟨0xB40, .ask, 16, []⟩)

set_option maxRecDepth 20000 in
theorem meets_PollAskOutcomes :
    asking.running = true ∧ (asking.link 0).mode = .run ∧ (asking.link 0).pendingMode = none
      ∧ (asking.link 0).item.map (·.ref) = some .poll
      ∧ (asking.sender 0).pollAsk = some ⟨9, 0xB40, 2, 1, 0, false, false, true⟩ ∧ asking.pollQueue 0 = [3]
      ∧ asking.brings 0 (askPaced ++ .dominant :: quietLevels 7) .sentOk = true
      ∧ asking.brings 0 [.dominant, .dominant, .dominant, .dominant, .dominant, .dominant] .lost = true
      ∧ (asking.modLink 0 LinkCtl.mark).brings 0 (List.replicate 8 .dominant) .markEnd = true
      ∧ (asking.linkSettings 0).retryLimit = 3 := by decide

/-! ### Rings -/

theorem meets_RingWritesComplete :
    let s := inFlight (writing false []) .ringBody true 7
    let t := inFlight (writing true [⟨0, 1, 1, 2, msg, .none, 0⟩]) .ringMarker true 1
    s.running = true ∧ s.path.inFlight[0]? = some ⟨.ringBody, true, 0x1000, 7, []⟩
      ∧ s.ringWriter.writing = some ⟨⟨0, 1, 0, 2, msg, .none, 0⟩, false⟩
      ∧ s.plan.windowAddr (.gather 1) 0 = some 0x20002000 ∧ (∀ l, (s.router l).handoff = [])
      ∧ t.path.inFlight[0]? = some ⟨.ringMarker, true, 0x1000, 1, []⟩
      ∧ (t.router 0).handoff = [⟨0, 1, 1, 2, msg, .none, 0⟩] ∧ (t.router (otherLink 0)).handoff = [] := by decide

/-- Ring 1 with entry 0 PENDING. -/
def pendingRing : State := base.modRing 1 fun g => g.reserve.fill 0

/-- Ring 1 with entries 0, 1 and 2 PENDING and entry 1 released. -/
def releasedRing : Ring := { (((base.ring 1).reserve.fill 0).reserve.fill 1).reserve.fill 2 with released := [1] }

theorem meets_ReleasePassesAndFreesInOrder :
    pendingRing.takesNow = true ∧ (pendingRing.ringSettings 1).length = 4
      ∧ pendingRing.plan.windowAddr (.gather 1) 0 = some 0x20002000 ∧ pendingRing.sees 0x20002000 (.marker 1 0) = true
      ∧ (pendingRing.ring 1).cond 0 = .pending ∧ (pendingRing.ring 1).oldest = 0 ∧ (pendingRing.ring 1).released = []
      ∧ (base.ring 1).cond 0 = .free ∧ ((writing false []).ring 1).cond 0 = .reserved
      ∧ releasedRing.sound = true ∧ releasedRing.cond releasedRing.oldest = .pending ∧ 1 < releasedRing.length
      ∧ (∀ k < 1, releasedRing.place (1 + k) ∈ releasedRing.released) ∧ releasedRing.place (1 + 1) ∉ releasedRing.released
      ∧ (releasedRing.release 0).oldest = 2 ∧ (releasedRing.release 0).pending = 1 := by
  decide

theorem meets_RingsSoundKept :
    (writing false []).ringsSound = true
      ∧ step { writing false [] with pending := [.attentionPulseEnd] } = .next (writing false []) := by
  refine ⟨by decide, ?_⟩
  rfl

/-! ### Polled values -/

theorem meets_LatentFetchQueuesCovered :
    attached.takesNow = true
      ∧ readTransfer attached.plan (.echo .active) 72 8 3 = some ⟨3, 0x20003120, .read 8⟩
      ∧ WordRef.echo .active 9 0 ∈ attached.refsOf ⟨3, 0x20003120, .read 8⟩ ∧ (attached.pollMayQueue 9).isSome = true := by
  decide

theorem test_latent_fetch_covers_echo_only :
    ∀ r ∈ attached.refsOf ⟨3, 0x20003120, .read 8⟩, r ∈ (List.range 8).map (WordRef.echo .active 9) := by decide

theorem meets_PollTimersExpire :
    let s := attached.modPoll 9 fun e => { e with state := .waiting, autoTimer := some 0, replyTimer := some 0 }
    s.running = true ∧ due s.now (s.pollEntry 9).autoTimer = true ∧ due s.now (s.pollEntry 9).replyTimer = true
      ∧ due base.now (base.pollEntry 9).staleTimer = false
      ∧ s.pollMayQueue 9 = none ∧ (attached.pollMayQueue 9) = some 0 ∧ (attached.sender 0).pollAsk = none
      ∧ (attached.link 0).canTake = false ∧ ((attached.modLink 0 fun k => { k with phase := .idle }).link 0).canTake = true
      ∧ (asking.sender 0).pollAsk.isSome = true ∧ asking.pollMayQueue 9 = some 0 := by decide

theorem meets_StaleValueStopsUnguarded :
    let s := driven.modStatus fun u => { u with stamp := 2001 }
    s.running = true ∧ due s.now (s.pollEntry 9).staleTimer = true
      ∧ (s.modPoll 9 fun e => { e with stale := true, staleTimer := none }).unguarded 0 = true
      ∧ (s.modPoll 9 fun e => { e with stale := true, staleTimer := none }).unguarded 1 = false := by decide

/-! ### The drive channels -/

/-- D0 driven by the zone. -/
def zoneDriven : State := driven.modChan 0 fun ch => { ch with source := .zone }

/-- `driven` at stamp 16, its over-current event due. -/
def drivenLater : State := driven.modStatus fun u => { u with stamp := 16 }

/-- `stopping` at stamp 16, an over-current event due. -/
def stoppingLater : State :=
  (stopping.modProt 0 fun k => { k with onset := some 0 }).modStatus fun u => { u with stamp := 16 }

/-- The sample states of the drive channels are sound. -/
theorem test_samples_driveSound :
    base.driveSound = true ∧ driven.driveSound = true ∧ (rested 0 .ready).driveSound = true ∧ zoneDriven.driveSound = true
      ∧ tripped.driveSound = true ∧ stopping.driveSound = true ∧ drivenLater.driveSound = true
      ∧ stoppingLater.driveSound = true := by decide +kernel

theorem meets_RefusedCommandIsRecorded :
    base.takesBlock 0 .stop 3 (fields 0) = true ∧ base.judge 0 .zone (zoneFields .moveOut (fields 0)) = some .badState
      ∧ base.takesBlock 0 .moveOut 3 (fields 0) = true
      ∧ base.refsOf ⟨3, 0x20006004, .write [fullBeat 0]⟩ = [.command 0 1]
      ∧ base.judge 0 .deck0 (deckPayload [1, 0, 0, 0, 0, 0]) = some .badSource := by decide

theorem meets_ChecksInOrder : base.driveSound = true ∧ driven.driveSound = true :=
  ⟨test_samples_driveSound.1, test_samples_driveSound.2.1⟩

theorem meets_EnableMakesReady :
    base.takesBlock 0 .enable 3 (fields 0) = true ∧ base.driveSound = true ∧ (base.chan 0).state = .safe
      ∧ (base.driveSettings 0).isSome = true ∧ base.esl = false := by
  rw [test_samples_driveSound.1]; decide

theorem meets_StopAndDisableEndMotion :
    driven.takesBlock 0 .stop 3 (fields 0) = true ∧ driven.takesBlock 0 .disable 3 (fields 0) = true
      ∧ driven.driveSound = true ∧ (driven.chan 0).state = .driveOut ∧ (base.chan 0).state = .safe
      ∧ base.takesBlock 0 .stop 3 (fields 0) = true
      ∧ cmdOf (deckPayload [6, 0, 0, 0, 0, 0]).code = some .stop ∧ cmdOf (deckPayload [2, 0, 0, 0, 0, 0]).code = some .disable
      ∧ base.command 0 .deck1 (deckPayload [6, 0, 0, 0, 0, 0]) = base := by
  decide +kernel

theorem meets_MoveStartsMotion :
    (rested 0 .ready).takesBlock 0 .goto 3 (fields 50) = true ∧ (rested 0 .ready).driveSound = true
      ∧ ((rested 0 .ready).chan 0).state = .ready
      ∧ (rested 0 .ready).judge 0 .zone (zoneFields .goto (fields 50)) = none
      ∧ (rested 0 .ready).judge 0 .deck0 (zoneFields .goto (fields 50)) = none
      ∧ MotionCode.direction .goto (fields 50).target.toInt ((rested 0 .ready).chan 0).position = some .outward
      ∧ (∀ g ∈ (rested 0 .ready).guardsOf 0 .outward, g.condition ≠ .still 0) := by
  rw [test_samples_driveSound.2.2.1]; decide

theorem meets_MoveWhileMovingOrAtTarget :
    zoneDriven.takesBlock 0 .goto 3 (fields 50) = true ∧ (zoneDriven.chan 0).motion.isSome = true
      ∧ (zoneDriven.chan 0).state = .driveOut ∧ zoneDriven.judge 0 .zone (zoneFields .goto (fields 50)) = none
      ∧ MotionCode.direction .goto (fields 50).target.toInt (zoneDriven.chan 0).position = some .outward
      ∧ zoneDriven.driveSound = true ∧ zoneDriven.judge 0 .zone (zoneFields .goto (fields 0)) = none
      ∧ (fields 0).target.toInt = (zoneDriven.chan 0).position ∧ zoneDriven.takesBlock 0 .goto 3 (fields 0) = true
      ∧ driven.judge 0 .deck0 (zoneFields .goto (fields 50)) = none ∧ driven.judge 0 .deck0 (zoneFields .goto (fields 0)) = none
      ∧ ((driven.command 0 .deck0 (zoneFields .goto (fields 50))).prot 0).holdExpiry = some 600 := by
  rw [test_samples_driveSound.2.2.2.1]; decide

theorem meets_ClearTripAndWatchCommands :
    tripped.takesBlock 0 .clearTrip 3 (fields 0) = true ∧ tripped.driveSound = true ∧ (tripped.chan 0).state = .tripped
      ∧ tripped.esl = false ∧ base.takesBlock 0 .watchOn 3 (fields 0) = true
      ∧ base.takesBlock 0 .watchOff 3 (fields 0) = true := by
  rw [test_samples_driveSound.2.2.2.2.1]; decide

theorem meets_RampCurrentAndWarning :
    let s := driven.modProt 0 fun k => { k with stallExpiry := none }
    let w := judged ((base.modChan 1 fun ch =>
      { ch with state := .driveIn, motion := some ⟨.moveIn, .inward, 50, none, 60, 0, 0⟩ }).modProt 1 fun k =>
        { k with onset := some (0 - 16) })
    s.running = true ∧ (s.chan 0).motion = some ⟨.goto, .outward, 50, some 100, 60, 0, 0⟩
      ∧ (s.prot 0).stallExpiry = none ∧ reached s.now 0 = true ∧ (base.chan 0).state ∈ [ChanState.safe, .ready, .tripped]
      ∧ (s.driveSettings 0).isSome = true ∧ w.running = true ∧ w.overcurrentDue 1 = true
      ∧ (w.driveSettings 1).map (·.tripMode) = some .warn := by decide

theorem meets_TripsCutMotion :
    drivenLater.running = true ∧ drivenLater.driveSound = true ∧ (drivenLater.chan 0).state = .driveOut
      ∧ (drivenLater.driveSettings 0).map (·.tripMode) = some .cut ∧ drivenLater.overcurrentDue 0 = true
      ∧ due drivenLater.now (drivenLater.prot 0).stallExpiry = true ∧ due drivenLater.now (drivenLater.prot 0).runExpiry = true
      ∧ stoppingLater.running = true ∧ stoppingLater.driveSound = true ∧ (stoppingLater.chan 0).state = .stopping
      ∧ (stoppingLater.driveSettings 0).map (·.tripMode) = some .cut ∧ stoppingLater.overcurrentDue 0 = true := by
  rw [test_samples_driveSound.2.2.2.2.2.2.1, test_samples_driveSound.2.2.2.2.2.2.2]; decide

theorem meets_HoldAndDwellExpire :
    driven.driveSound = true ∧ due driven.now (driven.prot 0).holdExpiry = true ∧ stopping.running = true
      ∧ stopping.driveSound = true ∧ (stopping.chan 0).state = .stopping
      ∧ due stopping.now (stopping.chan 0).dwellEnd = true := by
  rw [test_samples_driveSound.2.1, test_samples_driveSound.2.2.2.2.2.1]; decide

theorem meets_PulsesCountDrivenAndUndriven :
    (driven.chan 0).state.driven = some .outward ∧ driven.driveSound = true ∧ base.driveSettings 0 ≠ none
      ∧ (base.chan 0).state = .safe
      ∧ ((base.modProt 0 fun k => { k with watch := .on }).prot 0).watch = .on
      ∧ ((base.modProt 0 fun k => { k with watch := .on, creep := 40 }).watchPulse 0).hasCause .watch = true
      ∧ (((base.modProt 0 fun k => { k with watch := .on, creep := 40 }).watchPulse 0).chan 0).alarmsMerged = 1 := by
  rw [test_samples_driveSound.2.1]; decide

/-- `driven` toward `target`, under travel limits whose maximum is `travelMax`, D1's IN end active, and D0 guarded by it. -/
def aimed (target travelMax : Int) : State :=
  let limits := update plan.drives 0 fun d => d.map fun k => { k with travelMax := travelMax }
  let q : Plan :=
    { plan with drives := limits, interlocks := update plan.interlocks 2 fun _ => some ⟨0, .both, .atEnd 1 .inward⟩ }
  let s := (driven.modLoader fun p => { p with plan := q }).modChan 1 fun ch => { ch with endIn := true }
  s.modChan 0 fun ch => { ch with motion := ch.motion.map fun m => { m with target := some target } }

/-- What the change of an end switch of `aimed` does. -/
def switched (target travelMax : Int) (c : ChanId) (active : Bool) : State :=
  (aimed target travelMax).endSwitch c .inward active

theorem meets_EndSwitchStopsMotion :
    driven.running = true ∧ (driven.chan 0).endActive .outward ≠ true ∧ (driven.chan 0).endActive .outward = false
      ∧ (driven.chan 0).state.driven = some .outward
      ∧ (aimed (-100) 100).running = true ∧ ((aimed (-100) 100).chan 0).endActive .inward = false
      ∧ (aimed (-100) 100).reference 0 = -100
      ∧ ((switched (-100) 100 0 true).chan 0).stopReason = .atTarget
      ∧ ((switched 100 (-100) 0 true).chan 0).stopReason = .softLimit
      ∧ ((switched 100 100 0 true).chan 0).state = .driveOut ∧ ((switched 100 100 0 true).chan 0).position = -100
      ∧ ((switched 100 100 1 false).chan 0).stopReason = .interlock
      ∧ ((switched 100 100 1 false).chan 1).state = .safe := by decide +kernel

theorem meets_EslTripsEveryChannel :
    driven.running = true ∧ driven.esl = false ∧ (driven.chan 0).state ≠ .safe ∧ (driven.chan 0).state ≠ .tripped
      ∧ (driven.chan 1).state = .safe ∧ (tripped.chan 0).state = .tripped ∧ (tripped.prot 0).trip.isSome = true
      ∧ (driven.driveSettings 0).bind (·.alarm) = some (0, 7) ∧ (driven.trip 0 .esl).chan 0 ≠ driven.chan 0
      ∧ ((driven.trip 0 .esl).chan 0).alarmsMerged = 1 := by
  decide

theorem meets_DriveSoundKept :
    driven.driveSound = true ∧ step { driven with pending := [.attentionPulseEnd] } = .next driven :=
  ⟨test_samples_driveSound.2.1, rfl⟩

/-! ### Status, attention and the Repeater -/

theorem meets_TakeClearsWhatItReturns :
    base.takesNow = true ∧ readTransfer base.plan (.live .active) 3 1 3 = some ⟨3, 0x2000500C, .read 1⟩
      ∧ base.refsOf ⟨3, 0x2000500C, .read 1⟩ = [.live .active 3] := by decide

/-- `base` with the attention line in LEVEL mode. -/
def leveled : State := base.modLoader fun p => { p with plan := { plan with lineMode := .level } }

theorem meets_AttentionPulsesBeginAndFollow :
    StatusUnit.reset.causes &&& Cause.bit .trip = 0 ∧ (0xFFF#12) &&& Cause.bit .trip ≠ 0
      ∧ StatusUnit.reset.pulse = .idle
      ∧ (base.raise .trip).status.pulse = .asserted ∧ (base.raise .trip).running = true
      ∧ leveled.inReset = false ∧ leveled.plan.lineMode = .level ∧ leveled.plan.attentionMask &&& Cause.bit .trip ≠ 0
      ∧ leveled.attention = false ∧ (leveled.raise .trip).attention = true
      ∧ ((leveled.raise .trip).switchPlan Plan.empty).attention = false
      ∧ ((leveled.raise .trip).switchPlan plan).attention = false := by decide

/-- The Repeater waiting for the one read of its second source. -/
def gathering : State :=
  (inFlight base (.repeaterRead 0 0) false 3).modRepeater fun r =>
    { r with cycle := .cycling, position := 1, frame := .awaiting 0 [⟨3, none, false⟩] }

/-- `base` with one memory range of 64 bytes, 17 words, as its only source. -/
def wide : State :=
  base.modLoader fun p => { p with plan := { plan with repeater := ⟨.bit19200, 100, [.memory 0x50000102 64]⟩ } }

theorem meets_RepeaterPeriodBeginsCycle :
    base.running = true ∧ base.repeater.timer = some 0 ∧ reached base.now 0 = true ∧ base.repeater.cycle = .idle
      ∧ base.plan.repeater.sources = [.presented .counters, .memory 0x50000006 10] ∧ base.repeater.finishing = none
      ∧ wide.repeater.cycle = .idle ∧ wide.plan.repeater.sources = [.memory 0x50000102 64]
      ∧ wide.periodExpires.path.staged =
        [⟨.repeaterRead 0 0, false, 0x50000100, 16, []⟩, ⟨.repeaterRead 0 1, false, 0x50000140, 1, []⟩] := by
  decide

/-- The Repeater of `wide` waiting for both of its reads, read `part` in flight. -/
def gatheringBoth (part : Nat) : State :=
  (inFlight wide (.repeaterRead 0 part) false (if part = 0 then 16 else 1)).modRepeater fun r =>
    { r with cycle := .cycling, frame := .awaiting 0 [⟨16, none, false⟩, ⟨1, none, false⟩] }

/-- The Repeater of `wide` waiting for the second of its reads. -/
def gatheringTwo (first : Option (List Word)) : State :=
  (inFlight wide (.repeaterRead 0 1) false 1).modRepeater fun r =>
    { r with cycle := .cycling, frame := .awaiting 0 [⟨16, first, true⟩, ⟨1, none, false⟩] }

theorem meets_LastRangeReadSendsFrame :
    gathering.running = true ∧ gathering.path.inFlight[0]? = some ⟨.repeaterRead 0 0, false, 0x1000, 3, []⟩
      ∧ gathering.repeater.frame = .awaiting 0 [⟨3, none, false⟩] ∧ gathering.repeater.finishing = none
      ∧ gathering.plan.repeater.sources[gathering.repeater.position]? = some (.memory 0x50000006 10)
      ∧ (gatheringTwo none).running = true ∧ (gatheringTwo none).path.inFlight[0]? = some ⟨.repeaterRead 0 1, false, 0x1000, 1, []⟩
      ∧ (gatheringTwo (some zeroWords)).repeater.frame = .awaiting 0 [⟨16, some zeroWords, true⟩, ⟨1, none, false⟩]
      ∧ (gatheringTwo none).plan.repeater.sources[(gatheringTwo none).repeater.position]? = some (.memory 0x50000102 64)
      ∧ (gatheringBoth 1).running = true ∧ (gatheringBoth 1).path.inFlight[0]? = some ⟨.repeaterRead 0 1, false, 0x1000, 1, []⟩
      ∧ ((gatheringBoth 1).rangeRead 0 1 .okay [7]).repeater.frame = .awaiting 0 [⟨16, none, false⟩, ⟨1, some [7], true⟩]
      ∧ (((gatheringBoth 1).rangeRead 0 1 .okay [7]).rangeRead 0 0 .okay zeroWords).repeater.isSending = true := by
  decide

/-- The Repeater sending a frame of its last source, owing a cycle. -/
def framing : State :=
  base.modRepeater fun r => { r with cycle := .cycling, position := 1, owed := true, frame := .sending ⟨.bit19200, [], 0⟩ }

theorem meets_FramesFollowEachOther :
    framing.running = true ∧ framing.repeater.frame = .sending ⟨.bit19200, [], 0⟩ ∧ framing.repeater.owed = true
      ∧ framing.plan.repeater.sources.length ≤ framing.repeater.position + 1
      ∧ framing.plan.repeater.sources[1]? = some (.memory 0x50000006 10)
      ∧ wide.plan.repeater.sources = [.memory 0x50000102 64]
      ∧ (framing.modRepeater fun r => { r with finishing := some ⟨.bit19200, [], 0⟩ }).repeater.finishing.isSome = true := by
  decide

/-- A frame of one byte on HELM_TX, and its ten levels: 7EH between a low start bit and a high stop bit. -/
def oneByteFrame : SendingFrame := ⟨.bit19200, [0x7E], 0⟩

theorem meets_HelmLineSendsFrames :
    oneByteFrame.bit = 0 ∧ base.inReset = false ∧ base.pending = [] ∧ base.repeater.finishing = none
      ∧ base.repeater.frame = .none
      ∧ (base.modRepeater fun r => { r with frame := .sending oneByteFrame }).helmTx = false
      ∧ (List.range 11).map (fun n => (SendingFrame.bitTime^[n] oneByteFrame).level) =
      [false, false, true, true, true, true, true, true, false, true, true] := by
  decide

end Sys2Proof.Tests
end

section
/-! The bounds of the memory path: every operation inside an event keeps them, and so does every command (O9). -/

namespace Sys2Proof.Machine

/-! ### The bounds inside an event -/

/-- The bounds of the memory path at any point of an event: those of `Path.sound`, with requests still to be
submitted. -/
structure Path.Bounded (p : Path) : Prop where
  list : p.orderList.length ≤ 16
  queue : p.queue.length ≤ 8
  waits : p.waitList = [] ∨ p.queue.length = 8
  delivered : p.delivered = true

theorem Path.sound_iff (p : Path) : p.sound = true ↔ p.Bounded ∧ p.staged = [] := by
  constructor
  · intro h
    simp only [Path.sound, Bool.and_eq_true, Bool.or_eq_true, decide_eq_true_eq, beq_iff_eq] at h
    obtain ⟨⟨⟨⟨hlist, hqueue⟩, hwaits⟩, hstaged⟩, hdelivered⟩ := h
    exact ⟨⟨hlist, hqueue, hwaits, hdelivered⟩, hstaged⟩
  · rintro ⟨⟨hlist, hqueue, hwaits, hdelivered⟩, hstaged⟩
    simp only [Path.sound, Bool.and_eq_true, Bool.or_eq_true, decide_eq_true_eq, beq_iff_eq]
    exact ⟨⟨⟨⟨hlist, hqueue⟩, hwaits⟩, hstaged⟩, hdelivered⟩

/-- Submissions are outside the bounds. -/
theorem Path.Bounded.of_grows {p q : Path} (hp : p.Bounded) (h : p.grows q) : q.Bounded := by
  obtain ⟨rs, rfl⟩ := h
  exact ⟨hp.list, hp.queue, hp.waits, hp.delivered⟩

/-! ### The end of an event (R18) -/

theorem Path.Bounded.join {p : Path} (hp : p.Bounded) (r : Request) : (p.join r).Bounded := by
  unfold Path.join
  split
  next h =>
    obtain ⟨hroom, hfree⟩ := h
    exact ⟨hp.list, by simp; omega, .inl hfree, hp.delivered⟩
  next h =>
    refine ⟨hp.list, hp.queue, .inr ?_, hp.delivered⟩
    have hq := hp.queue
    rcases hp.waits with hw | hw
    · have : ¬ p.queue.length < 8 := fun hlt => h ⟨hlt, hw⟩
      dsimp only
      omega
    · exact hw

theorem Path.Bounded.foldl_join {p : Path} (hp : p.Bounded) (rs : List Request) : (rs.foldl Path.join p).Bounded := by
  induction rs generalizing p with
  | nil => exact hp
  | cons r rs ih => exact ih (hp.join r)

/-- Joining requests changes the queue and the wait list alone. -/
theorem Path.foldl_join_eq (rs : List Request) (p : Path) :
    ∃ q w, rs.foldl Path.join p = { p with queue := q, waitList := w } := by
  induction rs generalizing p with
  | nil => exact ⟨p.queue, p.waitList, rfl⟩
  | cons r rs ih =>
    obtain ⟨q, w, h⟩ := ih (p.join r)
    refine ⟨q, w, ?_⟩
    rw [List.foldl_cons, h]
    unfold Path.join
    split <;> rfl

/-- The end of an event changes the queue and the wait list, and leaves nothing submitted. -/
theorem State.commit_path (s : State) :
    ∃ q w, s.commit.path = { s.path with queue := q, waitList := w, staged := [] } :=
  Path.foldl_join_eq (joinOrder s.path.staged) { s.path with staged := [] }

@[simp] theorem State.commit_orderList (s : State) : s.commit.path.orderList = s.path.orderList := by
  obtain ⟨q, w, h⟩ := s.commit_path
  rw [h]

@[simp] theorem State.commit_port (s : State) : s.commit.path.port = s.path.port := by
  obtain ⟨q, w, h⟩ := s.commit_path
  rw [h]

@[simp] theorem State.commit_upstreamOut (s : State) : s.commit.path.upstreamOut = s.path.upstreamOut := by
  obtain ⟨q, w, h⟩ := s.commit_path
  rw [h]

/-- An event that keeps the bounds ends in a sound path. -/
theorem State.commit_sound (s : State) (h : s.path.Bounded) : s.commit.path.sound = true := by
  obtain ⟨q, w, hpath⟩ := s.commit_path
  have hb : s.commit.path.Bounded :=
    Path.Bounded.foldl_join (p := { s.path with staged := [] }) ⟨h.list, h.queue, h.waits, h.delivered⟩ _
  exact (Path.sound_iff _).mpr ⟨hb, by rw [hpath]⟩

/-- While RESET_N is asserted nothing changes; otherwise the event ends in a sound path. -/
theorem State.event_sound (s : State) (f : State → State) (h : s.path.sound = true)
    (hf : s.path.Bounded → (f s).path.Bounded) : (s.event f).path.sound = true := by
  unfold State.event
  split
  · exact h
  · exact State.commit_sound _ (hf ((Path.sound_iff _).mp h).1)

/-! ### Settling (R10) -/

/-- What satisfies `p`, before a list whose own such beginning has been dropped, is all that `takeWhile p` takes. -/
theorem takeWhile_append_dropWhile_of_all {α : Type} (p : α → Bool) (xs ys : List α) (h : ∀ x ∈ xs, p x = true) :
    (xs ++ ys.dropWhile p).takeWhile p = xs := by
  have hstop : (ys.dropWhile p).takeWhile p = [] := by
    induction ys with
    | nil => rfl
    | cons y ys ih => by_cases hy : p y <;> simp [hy, ih]
  rw [List.takeWhile_append_of_pos h, hstop, List.append_nil]

/-- The notices of an entry have no part in its state. -/
theorem OrderEntry.ready_withoutNotices (e : OrderEntry) : ({ e with notices := [] } : OrderEntry).ready = e.ready := rfl

theorem Path.ready_of_mem_settled {p : Path} {e : OrderEntry} (h : e ∈ p.settled) : e.ready = true :=
  List.mem_takeWhile_imp h

/-- Settling leaves nothing to deliver. -/
theorem Path.clearSettled_delivered (p : Path) : p.clearSettled.delivered = true := by
  have hready : ∀ e ∈ p.settled.map (fun e => { e with notices := [] }), e.ready = true := by
    intro e he
    obtain ⟨x, hx, rfl⟩ := List.mem_map.mp he
    exact x.ready_withoutNotices.trans (Path.ready_of_mem_settled hx)
  have hs : p.clearSettled.settled = p.settled.map (fun e => { e with notices := [] }) :=
    takeWhile_append_dropWhile_of_all _ _ _ hready
  rw [Path.delivered, hs, List.all_eq_true]
  intro e he
  obtain ⟨x, -, rfl⟩ := List.mem_map.mp he
  rfl

/-- What does not look at notices reads the list the same after settling. -/
theorem Path.clearSettled_map {α : Type} (p : Path) (f : OrderEntry → α)
    (h : ∀ e, f { e with notices := [] } = f e) : p.clearSettled.orderList.map f = p.orderList.map f := by
  have hf : (f ∘ fun e : OrderEntry => { e with notices := [] }) = f := funext h
  conv_rhs => rw [← List.takeWhile_append_dropWhile (p := OrderEntry.ready) (l := p.orderList)]
  rw [Path.clearSettled, Path.settled, List.map_append, List.map_map, hf, List.map_append]

theorem Path.clearSettled_length (p : Path) : p.clearSettled.orderList.length = p.orderList.length := by
  simpa using congrArg List.length (p.clearSettled_map (fun _ => ()) fun _ => rfl)

/-- The bounds hold after settling if all but the delivery held before. -/
theorem State.settle_bounded (s : State) (hlist : s.path.orderList.length ≤ 16) (hqueue : s.path.queue.length ≤ 8)
    (hwaits : s.path.waitList = [] ∨ s.path.queue.length = 8) : s.settle.path.Bounded :=
  Path.Bounded.of_grows (p := s.path.clearSettled)
    ⟨by rw [Path.clearSettled_length]; exact hlist, hqueue, hwaits, s.path.clearSettled_delivered⟩ s.settle_within.path

/-! ### Taking (R1) -/

theorem State.hasRoom_iff (s : State) : s.hasRoom = true ↔ s.path.orderList.length < 16 := decide_eq_true_iff

theorem State.taking_bounded (s : State) (t : Transfer) (h : s.path.Bounded) (hroom : s.hasRoom = true) :
    (s.taking t).path.Bounded := by
  rw [State.hasRoom_iff] at hroom
  obtain ⟨rs, hpath⟩ := s.taking_path t
  rw [hpath]
  refine ⟨?_, h.queue, h.waits, Path.clearSettled_delivered _⟩
  rw [Path.clearSettled_length, List.length_append, List.length_singleton]
  omega

theorem State.takeNext_bounded (s : State) (h : s.path.Bounded) : s.takeNext.path.Bounded := by
  unfold State.takeNext
  split
  · exact h
  · split
    next hroom => exact State.taking_bounded _ _ ⟨h.list, h.queue, h.waits, h.delivered⟩ hroom
    next => exact h

theorem State.takeUpTo_bounded (n : Nat) (s : State) (h : s.path.Bounded) : (State.takeUpTo n s).path.Bounded := by
  induction n generalizing s with
  | zero => exact h
  | succ n ih => exact ih _ (s.takeNext_bounded h)

theorem State.presentTransfer_sound (s : State) (t : Transfer) (h : s.path.sound = true) :
    (s.presentTransfer t).path.sound = true := by
  obtain ⟨hb, hstaged⟩ := (Path.sound_iff _).mp h
  have hport : ({ s.path with port := s.path.port ++ [t] } : Path).Bounded := ⟨hb.list, hb.queue, hb.waits, hb.delivered⟩
  unfold State.presentTransfer
  dsimp only
  split
  · exact (Path.sound_iff _).mpr ⟨hport, hstaged⟩
  · exact State.commit_sound _ (State.takeNext_bounded _ hport)

theorem State.request_sound (s : State) (t : Option Transfer) (h : s.path.sound = true) :
    (s.request t).path.sound = true := by
  cases t with
  | none => exact h
  | some t => exact s.presentTransfer_sound t h

/-! ### Grants, answers, responses (R3, R13, R14, R21) -/

/-- Changing one entry into one that is not READY settles nothing. -/
theorem takeWhile_ready_modify (es : List OrderEntry) (i : Nat) (f : OrderEntry → OrderEntry) (P : OrderEntry → Bool)
    (hf : ∀ e, es[i]? = some e → (f e).ready = false) (h : (es.takeWhile OrderEntry.ready).all P = true) :
    ((es.modify i f).takeWhile OrderEntry.ready).all P = true := by
  induction es generalizing i with
  | nil => simp
  | cons x xs ih =>
    cases i with
    | zero => simp [hf x rfl]
    | succ i =>
      rw [List.modify_succ_cons]
      by_cases hx : x.ready = true
      · simp only [List.takeWhile_cons_of_pos hx, List.all_cons, Bool.and_eq_true] at h ⊢
        exact ⟨h.1, ih i (fun e he => hf e (by simpa using he)) h.2⟩
      · simp [hx]

/-- An entry with an issued piece is not READY (Table 1-2). -/
theorem OrderEntry.ready_eq_false_of_issued {e : OrderEntry} {p : Piece} (hp : p ∈ e.pieces) (h : p.state = .issued) :
    e.ready = false := by
  have hany : (e.pieces.any fun p => p.state == .issued) = true := List.any_eq_true.mpr ⟨p, hp, by simp [h]⟩
  unfold OrderEntry.ready OrderEntry.state
  split
  · rfl
  · rfl
  
/-- The waiting piece is a piece of an entry of the list. -/
theorem Path.waitingPiece_get {p : Path} {i k : Nat} (h : p.waitingPiece = some (i, k)) :
    ∃ e x, p.orderList[i]? = some e ∧ e.pieces[k]? = some x := by
  unfold Path.waitingPiece at h
  split at h
  · cases h
  next j hj =>
    simp only [Option.map_eq_some_iff, Option.bind_eq_some_iff, Prod.mk.injEq] at h
    obtain ⟨k', ⟨e, he, hk⟩, rfl, rfl⟩ := h
    obtain ⟨hlt, -⟩ := List.findIdx?_eq_some_iff_getElem.mp hk
    exact ⟨e, e.pieces[k'], he, List.getElem?_eq_getElem hlt⟩

theorem Path.grantPiece_bounded {p : Path} (h : p.Bounded) : p.grantPiece.Bounded := by
  unfold Path.grantPiece
  split
  · exact h
  next i k hw =>
    obtain ⟨e, x, he, hx⟩ := Path.waitingPiece_get hw
    refine ⟨by simpa [modPiece] using h.list, h.queue, h.waits, ?_⟩
    refine takeWhile_ready_modify _ i _ _ (fun e' he' => ?_) h.delivered
    obtain rfl : e = e' := Option.some.inj (he.symm.trans he')
    refine OrderEntry.ready_eq_false_of_issued (p := x.issue) (List.mem_of_getElem? (i := k) ?_) rfl
    rw [List.getElem?_modify_eq, hx]
    rfl

theorem Path.grantInternal_bounded {p : Path} (h : p.Bounded) : p.grantInternal.Bounded := by
  unfold Path.grantInternal
  split
  · exact h
  next r rs hq =>
    have hqueue := h.queue
    have hwaits := h.waits
    rw [hq, List.length_cons] at hqueue hwaits
    refine ⟨h.list, ?_, ?_, h.delivered⟩
    · simp only [List.length_append, List.length_take]
      omega
    · cases hw : p.waitList with
      | nil => exact .inl rfl
      | cons w ws =>
        refine .inr ?_
        simp only [hw, List.length_append, List.length_take, List.length_cons, reduceCtorEq, false_or] at hwaits ⊢
        omega

theorem Path.grant_bounded {p : Path} (h : p.Bounded) : p.grant.Bounded := by
  unfold Path.grant
  split
  · exact h
  · exact Path.grantPiece_bounded h
  · exact Path.grantInternal_bounded h

theorem State.pieceAnswered_bounded (s : State) (i k : Nat) (code : DownCode) (data : List Word) (h : s.path.Bounded) :
    (s.pieceAnswered i k code data).path.Bounded := by
  unfold State.pieceAnswered
  split
  · exact State.settle_bounded _ (by simpa [Path.answer] using h.list) h.queue h.waits
  · exact h

theorem Path.readyHead_eq_some {p : Path} {e : OrderEntry} (h : p.readyHead = some e) :
    ∃ es, p.orderList = e :: es ∧ e.ready = true := by
  obtain ⟨hhead, hready⟩ := Option.filter_eq_some_iff.mp h
  obtain ⟨es, hes⟩ := List.head?_eq_some_iff.mp hhead
  exact ⟨es, hes, hready⟩

theorem Path.leave_bounded {p : Path} {e : OrderEntry} (h : p.Bounded) (he : p.readyHead = some e) :
    (p.leave e).Bounded := by
  obtain ⟨es, hes, hready⟩ := Path.readyHead_eq_some he
  have hlist := h.list
  have hdelivered := h.delivered
  simp only [Path.delivered, Path.settled, hes, List.takeWhile_cons_of_pos hready, List.all_cons,
    Bool.and_eq_true] at hdelivered
  refine ⟨?_, h.queue, h.waits, ?_⟩
  · simp only [Path.leave, List.length_tail]
    omega
  · simpa only [Path.leave, Path.delivered, Path.settled, hes, List.tail_cons] using hdelivered.2

theorem State.responseLeaves_bounded (s : State) (h : s.path.Bounded) : s.responseLeaves.path.Bounded := by
  unfold State.responseLeaves
  split
  · exact h
  next e he => exact State.takeNext_bounded _ (Path.leave_bounded h he)

/-! ### Completions of internal transfers (R19, R20) -/

theorem State.complete_path (s : State) (nth : Nat) (code : DownCode) :
    (s.complete nth code).path = { s.path with inFlight := s.path.inFlight.eraseIdx nth } := by
  cases code <;> rfl

theorem State.complete_bounded (s : State) (nth : Nat) (code : DownCode) (h : s.path.Bounded) :
    (s.complete nth code).path.Bounded := by
  rw [State.complete_path]
  exact ⟨h.list, h.queue, h.waits, h.delivered⟩

theorem Within.bounded {s t : State} (h : Within s t) (hs : s.path.Bounded) : t.path.Bounded := hs.of_grows h.path

/-- A completion of the command's own kind, then an operation that only submits; any other response is ignored. -/
theorem State.planReadCompletes_bounded (s : State) (nth : Nat) (code : DownCode) (data : List Word)
    (h : s.path.Bounded) : (s.planReadCompletes nth code data).path.Bounded := by
  unfold State.planReadCompletes
  split
  · exact (State.planRead_within _ _ _ _ _).bounded (s.complete_bounded nth code h)
  · exact h

theorem State.slotFetchCompletes_bounded (s : State) (nth : Nat) (code : DownCode) (data : List Word)
    (h : s.path.Bounded) : (s.slotFetchCompletes nth code data).path.Bounded := by
  unfold State.slotFetchCompletes
  split
  · exact (State.fetchCompleted_linkSide _ _ _ _ _ _).toInner.within.bounded (s.complete_bounded nth code h)
  · exact h

theorem State.bodyWriteCompletes_bounded (s : State) (nth : Nat) (code : DownCode) (h : s.path.Bounded) :
    (s.bodyWriteCompletes nth code).path.Bounded := by
  unfold State.bodyWriteCompletes
  split
  · exact (State.bodyWritten_inner _ _).within.bounded (s.complete_bounded nth code h)
  · exact h

theorem State.markerWriteCompletes_bounded (s : State) (nth : Nat) (code : DownCode) (h : s.path.Bounded) :
    (s.markerWriteCompletes nth code).path.Bounded := by
  unfold State.markerWriteCompletes
  split
  · exact (State.markerWritten_inner _ _).within.bounded (s.complete_bounded nth code h)
  · exact h

theorem State.repeaterReadCompletes_bounded (s : State) (nth : Nat) (code : DownCode) (data : List Word)
    (h : s.path.Bounded) : (s.repeaterReadCompletes nth code data).path.Bounded := by
  unfold State.repeaterReadCompletes
  split
  · exact (State.rangeRead_inner _ _ _ _ _).within.bounded (s.complete_bounded nth code h)
  · exact h

/-! ### Every command -/

/-- An event that only submits ends in a sound path. -/
theorem State.event_sound_of_within (s : State) (f : State → State) (h : s.path.sound = true) (hf : Within s (f s)) :
    (s.event f).path.sound = true := s.event_sound f h hf.bounded

/-- The levels of a line bring about an event that only submits, or nothing. -/
theorem State.wire_within (s : State) (l : LinkId) (levels : List Level) (e : WireEvent) (f : State → State)
    (hf : ∀ u, Within u (f u)) : Within s (s.wire l levels e f) := by
  unfold State.wire
  split
  · exact .refl s
  · split
    · exact (s.modLink_linkSide l _).toInner.within.trans (hf _)
    · exact .refl s

/-- The outcome of a line command: its event, where the levels bring it about. -/
theorem State.wireEvent_sound (s : State) (l : LinkId) (levels : List Level) (e : WireEvent) (f : State → State)
    (h : s.path.sound = true) (hf : ∀ u, Inner u (f u)) : (s.event fun t => t.wire l levels e f).path.sound = true :=
  s.event_sound_of_within _ h (s.wire_within l levels e f fun u => (hf u).within)

/-- A command that is out of place changes nothing (log 2). -/
theorem sound_ite {c : Prop} [Decidable c] {s t : State} (hs : c → s.path.sound = true) (ht : ¬ c → t.path.sound = true) :
    (if c then s else t).path.sound = true := by
  split
  next hc => exact hs hc
  next hc => exact ht hc

theorem State.resetEnds_sound (s : State) (i : InputLevels) (h : s.path.sound = true) :
    (s.resetEnds i).path.sound = true :=
  State.commit_sound _ (State.takeUpTo_bounded _ _ ((Path.sound_iff _).mp h).1)

/-- The next state of an outcome, if it has one, has a sound path. -/
def EndsSound (o : Host.Outcome State Fault Refusal) : Prop :=
  match o with
  | .next t => t.path.sound = true
  | .fault _ | .refused _ => True

theorem EndsSound.ite {c : Prop} [Decidable c] {t : State} {r : Refusal} (h : t.path.sound = true) :
    EndsSound (if c then .next t else .refused r) := by
  split
  · exact h
  · trivial

/-- An event that only submits, taken where it is due and out of place otherwise (log 2). -/
theorem State.dueEvent_sound {c : Prop} [Decidable c] (s : State) (f : State → State) (h : s.path.sound = true)
    (hf : Within s (f s)) : (if c then s.event f else s).path.sound = true :=
  sound_ite (fun _ => s.event_sound_of_within f h hf) fun _ => h

theorem execMirroredMessageEnd_endsSound (l : LinkId) (s : State) (h : s.path.sound = true) :
    EndsSound (execMirroredMessageEnd l s) := by
  unfold execMirroredMessageEnd EndsSound
  dsimp only
  split
  · exact h
  · exact s.event_sound_of_within _ h (s.mirroredEnds_inner l _).within

/-- No command breaks the bounds of the memory path. -/
theorem exec_endsSound (c : Instr) (s : State) (h : s.path.sound = true) : EndsSound (exec c s) := by
  cases c with
  | startReset planSel => exact (rfl : (Path.sound { Path.reset with port := s.path.port }) = true)
  | resetEnd i => exact sound_ite (fun _ => s.resetEnds_sound i h) fun _ => h
  | stampTick => exact s.event_sound _ h fun hb => hb
  | upstreamTransferTaken t => exact EndsSound.ite (s.presentTransfer_sound t h)
  | downstreamGrant => exact s.event_sound _ h Path.grant_bounded
  | pieceAnswered i k code data => exact s.event_sound _ h (s.pieceAnswered_bounded i k code data)
  | upstreamResponseLeaves => exact s.event_sound _ h s.responseLeaves_bounded
  | planSequenceTrigger id value => exact s.presentTransfer_sound _ h
  | modeRequestSetup l id | modeRequestRun l id | modeRequestListen l id | modeRequestMirror l id
  | modeRequestQuiet l id | send l i id body | answer l i id body | abort l i id | abortAll l id | release r e id
  | enable c id f | disable c id f | moveOut c id f | moveIn c id f | goto c id f | stop c id f | clearTrip c id f
  | watchOn c id f | watchOff c id f => exact s.request_sound _ h
  | latentFetch w n id | take w n id => exact EndsSound.ite (s.request_sound _ h)
  | planReadComplete nth code data => exact s.event_sound _ h (s.planReadCompletes_bounded nth code data)
  | slotFetchComplete nth code data => exact s.event_sound _ h (s.slotFetchCompletes_bounded nth code data)
  | ringBodyWriteComplete nth code => exact s.event_sound _ h (s.bodyWriteCompletes_bounded nth code)
  | ringMarkerWriteComplete nth code => exact s.event_sound _ h (s.markerWriteCompletes_bounded nth code)
  | repeaterReadComplete nth code data => exact s.event_sound _ h (s.repeaterReadCompletes_bounded nth code data)
  | quietGap l levels =>
    exact sound_ite (fun _ => h) fun _ => s.wireEvent_sound l levels _ _ h fun u => (u.quietGap_linkSide l).toInner
  | recovery l levels =>
    exact sound_ite (fun _ => s.wireEvent_sound l levels _ _ h fun u => (u.recover_linkSide l).toInner) fun _ => h
  | startMarkRead l levels => exact s.wireEvent_sound l levels _ _ h fun u => (u.modLink_linkSide l _).toInner
  | arbitrationLost l levels => exact s.wireEvent_sound l levels _ _ h fun u => (u.arbitrationLost_linkSide l).toInner
  | messageSent l levels => exact s.wireEvent_sound l levels _ _ h fun u => (u.messageSent_linkSide l).toInner
  | messageReceived l levels => exact s.wireEvent_sound l levels _ _ h fun u => u.messageReceived_inner l
  | shapeError l levels => exact s.wireEvent_sound l levels _ _ h fun u => (u.shapeError_linkSide l).toInner
  | checkError l levels => exact s.wireEvent_sound l levels _ _ h fun u => u.checkError_inner l
  | noConfirmError l levels =>
    exact s.wireEvent_sound l levels _ _ h fun u => (u.sendingError_linkSide l .noConfirm nofun nofun).toInner
  | clashError l levels =>
    exact s.wireEvent_sound l levels _ _ h fun u => (u.sendingError_linkSide l .clash nofun nofun).toInner
  | stuck l levels => exact s.wireEvent_sound l levels _ _ h fun u => (u.stuckError_linkSide l).toInner
  | errorMarkEnd l levels => exact s.wireEvent_sound l levels _ _ h fun u => (u.markEnds_linkSide l).toInner
  | quietWake l levels => exact s.wireEvent_sound l levels _ _ h fun u => (u.wake_linkSide l).toInner
  | mirrorGapEnd l => exact s.dueEvent_sound _ h (s.mirrorGapEnds_linkSide l).toInner.within
  | mirroredMessageEnd l => exact execMirroredMessageEnd_endsSound l s h
  | autoExpiry p => exact s.dueEvent_sound _ h (s.autoExpires_commSide p).toInner.within
  | replyTimeout p => exact s.dueEvent_sound _ h (s.replyExpires_linkSide 0 p).toInner.within
  | stalenessExpiry p => exact s.dueEvent_sound _ h (s.staleExpires_inner p).within
  | rampEnd c => exact s.dueEvent_sound _ h (s.rampEnds_driveSide c).toInner.within
  | currentConversion c v => exact s.event_sound_of_within _ h (s.convert_driveSide c v).toInner.within
  | overcurrentEvent c => exact s.dueEvent_sound _ h (s.overcurrent_driveSide c).toInner.within
  | pulse c => exact s.event_sound_of_within _ h (s.pulse_driveSide c).toInner.within
  | endSwitchChange c which active =>
    exact sound_ite (fun _ => h) fun _ => s.event_sound_of_within _ h (s.endSwitch_driveSide c which active).toInner.within
  | dwellExpiry c => exact s.dueEvent_sound _ h (s.toRest_driveSide c .ready).toInner.within
  | stallExpiry c => exact s.dueEvent_sound _ h (s.trip_driveSide c .stall).toInner.within
  | runtimeExpiry c => exact s.dueEvent_sound _ h (s.trip_driveSide c .runtime).toInner.within
  | holdExpiry c => exact s.dueEvent_sound _ h (s.stopMotion_driveSide c .holdLapse).toInner.within
  | eslAssertion =>
    refine sound_ite (fun _ => h) fun _ => s.event_sound _ h ?_
    exact (s.eslTrips_driveSide (chanOrder (Config.eslOrder s.freeCount))).toInner.within.bounded
  | eslRelease | attentionPulseEnd | attentionGapEnd => exact s.event_sound _ h fun hb => hb
  | repeaterPeriodExpiry => exact s.dueEvent_sound _ h s.periodExpires_inner.within
  | frameSent => exact s.dueEvent_sound _ h s.frameEnds_inner.within
  | finishingFrameSent => exact s.dueEvent_sound _ h s.finishingEnds_inner.within

theorem EndsSound.path {o : Host.Outcome State Fault Refusal} {t : State} (h : EndsSound o) (ho : o = .next t) :
    t.path.sound = true := by
  subst ho
  exact h

/-- Settles O9: a step is an idle bit-time, which leaves the path, or the command at the front. -/
theorem pathSoundKept : Obligations.PathSoundKept := by
  intro s t h hstep
  refine EndsSound.path ?_ hstep
  unfold step
  split
  · exact (congrArg Path.sound s.idle_path).trans h
  next c _ _ => exact exec_endsSound c s.dequeue h

end Sys2Proof.Machine
end

section
/-! The memory path's own commands: a grant (O6), an answer and what it settles (O7, O12), a response (O8). -/

namespace Sys2Proof.Machine

/-! ### Grants (R13, R21) -/

/-- A list with its entry `i` changed. -/
theorem modify_eq_set_of_getElem? {α : Type} {xs : List α} {i : Nat} {a : α} (f : α → α) (h : xs[i]? = some a) :
    xs.modify i f = xs.set i (f a) := by
  rw [List.modify_eq_set_getElem?, h]
  rfl

/-- One piece of one entry changed. -/
theorem modPiece_eq_set {es : List OrderEntry} {i k : Nat} {e : OrderEntry} {p : Piece} (f : Piece → Piece)
    (he : es[i]? = some e) (hp : e.pieces[k]? = some p) :
    modPiece es i k f = es.set i { e with pieces := e.pieces.set k (f p) } := by
  rw [modPiece, modify_eq_set_of_getElem? _ he, modify_eq_set_of_getElem? _ hp]

theorem Path.grant_internal (p : Path) (r : Request) (rs : List Request) (hq : p.queue = r :: rs)
    (h : p.waitingPiece = none ∨ p.lastGrant = .passed) : p.grant = p.grantInternal := by
  unfold Path.grant Path.granted
  rw [hq]
  rcases h with h | h
  · simp [h]
  · cases hw : p.waitingPiece <;> simp [h]

theorem Path.grant_passed (p : Path) (w : Nat × Nat) (hw : p.waitingPiece = some w)
    (h : p.queue = [] ∨ p.lastGrant = .internal) : p.grant = p.grantPiece := by
  unfold Path.grant Path.granted
  rw [hw]
  rcases h with h | h
  · simp [h]
  · cases hq : p.queue <;> simp [h]

theorem Path.grant_none (p : Path) (hw : p.waitingPiece = none) (hq : p.queue = []) : p.grant = p := by
  unfold Path.grant Path.granted
  rw [hw, hq]

/-- A grant submits nothing. -/
theorem Path.grant_staged (p : Path) : p.grant.staged = p.staged := by
  unfold Path.grant
  split
  · rfl
  · unfold Path.grantPiece
    split <;> rfl
  · unfold Path.grantInternal
    split <;> rfl

theorem exec_downstreamGrant (s : State) (h : s.running = true) :
    exec .downstreamGrant s = .next { s with path := s.path.grant } := by
  have hstaged : (s.modPath Path.grant).path.staged = [] := (Path.grant_staged _).trans (State.running_staged h)
  exact congrArg Host.Outcome.next (s.event_eq (fun t => t.modPath Path.grant) h hstaged)

/-- Settles O6: which stream is granted, then what its grant does. -/
theorem grantAlternates : Obligations.GrantAlternates := by
  intro s hrun
  rw [exec_downstreamGrant s hrun]
  refine ⟨fun r rs hq h => ?_, fun i k e p hw he hp h => ?_, fun hw hq => ?_⟩
  · rw [Path.grant_internal _ r rs hq h, Path.grantInternal, hq]
  · rw [Path.grant_passed _ _ hw h, Path.grantPiece, hw]
    simp only [modPiece_eq_set _ he hp, Path.pieceOut, he, hp]
    rfl
  · rw [Path.grant_none _ hw hq]

/-! ### Answers (R14, R15) -/

theorem Path.answers_of_issued {p : Path} {i k : Nat} {code : DownCode} {words : Nat} {e : OrderEntry} {x : Piece}
    (he : p.orderList[i]? = some e) (hx : e.pieces[k]? = some x) (hissued : x.state = .issued)
    (hwords : e.isWrite = true ∨ code = .other ∨ words = x.count) : p.answers i k code words = true := by
  have hcode : code = .other → (code != .okay) = true := by
    rintro rfl
    rfl
  unfold Path.answers
  rw [he]
  simp only [hx, Option.any_some, hissued, beq_self_eq_true, Bool.true_and, Bool.or_eq_true, beq_iff_eq]
  rcases hwords with h | h | h
  · exact .inl (.inl h)
  · exact .inl (.inr (hcode h))
  · exact .inr h

theorem Path.answer_orderList {p : Path} {i k : Nat} {code : DownCode} {data : List Word} {e : OrderEntry} {x : Piece}
    (he : p.orderList[i]? = some e) (hx : e.pieces[k]? = some x) :
    (p.answer i k code data).orderList =
      p.orderList.set i { e with pieces := e.pieces.set k (x.answerWith e.isWrite code data) } := by
  simp only [Path.answer, modify_eq_set_of_getElem? _ he, modify_eq_set_of_getElem? _ hx]

/-- The path with an issued piece answered. -/
theorem Path.answer_eq {p : Path} {i k : Nat} {code : DownCode} {data : List Word} {e : OrderEntry} {x : Piece}
    (he : p.orderList[i]? = some e) (hx : e.pieces[k]? = some x) :
    p.answer i k code data =
      { p with
        orderList := p.orderList.set i { e with pieces := e.pieces.set k (x.answerWith e.isWrite code data) } } := by
  rw [← Path.answer_orderList he hx]
  rfl

/-- The answer of an issued piece, at the end of its event: it is recorded, and the list is settled. -/
theorem exec_pieceAnswered {s : State} {i k : Nat} {code : DownCode} {data : List Word} {e : OrderEntry} {x : Piece}
    (hrun : s.running = true) (he : s.path.orderList[i]? = some e) (hx : e.pieces[k]? = some x)
    (hissued : x.state = .issued) (hwords : e.isWrite = true ∨ code = .other ∨ data.length = x.count) :
    exec (.pieceAnswered i k code data) s = .next (State.settle (s.modPath fun p =>
      { p with
        orderList := p.orderList.set i
          { e with pieces := e.pieces.set k (x.answerWith e.isWrite code data) } })).commit := by
  show Host.Outcome.next (s.event fun t => t.pieceAnswered i k code data) = _
  rw [State.event_of_running s _ (State.running_inReset hrun), State.pieceAnswered,
    if_pos (Path.answers_of_issued he hx hissued hwords), State.modPath, Path.answer_eq he hx]
  rfl

/-- Settling and the end of its event leave the list as settled, and the rest of the path but for submissions. -/
theorem State.settle_commit_path (s : State) : ∃ q w,
    s.settle.commit.path = { s.path.clearSettled with queue := q, waitList := w, staged := [] } := by
  obtain ⟨q, w, hc⟩ := s.settle.commit_path
  obtain ⟨rs, hs⟩ := s.settle_within.path
  exact ⟨q, w, by rw [hc, hs]; rfl⟩

/-- Where no entry has a notice there is nothing to deliver. -/
theorem Path.delivered_of_noNotices (p : Path) (h : ∀ e ∈ p.orderList, e.notices = []) : p.delivered = true := by
  rw [Path.delivered, List.all_eq_true]
  intro e he
  rw [h e ((List.takeWhile_sublist _).subset he)]
  rfl

/-- Settles O7: `exec_pieceAnswered` gives the next state; what it keeps is what delivering keeps. -/
theorem pieceAnswerRecorded : Obligations.PieceAnswerRecorded := by
  intro s i k code data e p hrun he hp hissued hwords p' es settled cleared
  let u : State := s.modPath fun p => { p with orderList := es }
  obtain ⟨q, w, hpath⟩ := u.settle_commit_path
  refine ⟨u.settle.commit, exec_pieceAnswered hrun he hp hissued hwords, rfl, (congrArg Path.orderList hpath).trans rfl,
    (congrArg Path.port hpath).trans rfl, (congrArg Path.inFlight hpath).trans rfl,
    (congrArg Path.lastGrant hpath).trans rfl, fun hnone => ?_⟩
  have hes : ∀ x ∈ es, x.notices = [] := by
    intro x hx
    rcases List.mem_or_eq_of_mem_set hx with hx | rfl
    · exact hnone x hx
    · exact hnone e (List.mem_of_getElem? he)
  rw [State.settle_of_delivered u (Path.delivered_of_noNotices u.path hes)]
  exact u.commit_of_empty (State.running_staged hrun)

/-! ### Responses (R3, R15) -/

theorem exec_upstreamResponseLeaves (s : State) (h : s.running = true) :
    exec .upstreamResponseLeaves s = .next s.responseLeaves.commit :=
  congrArg Host.Outcome.next (s.event_of_running _ (State.running_inReset h))

theorem Path.readyHead_cons {p : Path} {e : OrderEntry} {es : List OrderEntry} (h : p.orderList = e :: es)
    (hready : e.ready = true) : p.readyHead = some e := by
  simp [Path.readyHead, h, hready]

theorem State.takeNext_noPort (s : State) (h : s.path.port = []) : s.takeNext = s := by
  unfold State.takeNext
  rw [h]

/-- The path once the transfer on the port has been taken: its entry stands last, and what was settled has no notices. -/
theorem State.takeNext_path {s : State} {t : Transfer} {ts : List Transfer} (hport : s.path.port = t :: ts)
    (hroom : s.hasRoom = true) : s.takeNext.path.port = ts
      ∧ s.takeNext.path.orderList.map (·.id) = s.path.orderList.map (·.id) ++ [t.id]
      ∧ s.takeNext.path.upstreamOut = s.path.upstreamOut := by
  have htake : s.takeNext = (s.modPath fun p => { p with port := ts }).taking t := by
    simp only [State.takeNext, hport, hroom, if_true]
  obtain ⟨rs, hpath⟩ := (s.modPath fun p => { p with port := ts }).taking_path t
  rw [htake, hpath]
  refine ⟨rfl, ?_, rfl⟩
  refine (Path.clearSettled_map _ (·.id) fun _ => rfl).trans ?_
  rw [List.map_append]
  rfl

theorem OrderEntry.code_memerr {e : OrderEntry} (h : ∃ p ∈ e.pieces, p.code = .memerr) : e.code = .memerr := by
  obtain ⟨p, hp, hcode⟩ := h
  have hany : (e.pieces.any fun p => p.code == .memerr) = true := List.any_eq_true.mpr ⟨p, hp, by rw [hcode]; rfl⟩
  rw [OrderEntry.code, if_pos hany]

/-- With no piece answered MEMERR the code says whether a beat of a write was withheld. -/
theorem OrderEntry.code_of_noMemerr {e : OrderEntry} (h : ∀ p ∈ e.pieces, p.code ≠ .memerr) :
    e.code = if e.isWrite = true ∧ .withhold ∈ e.dispositions then .denied else .okay := by
  have hany : ¬ (e.pieces.any fun p => p.code == .memerr) = true := by
    rw [List.any_eq_true]
    rintro ⟨p, hp, hcode⟩
    exact h p hp (by simpa using hcode)
  rw [OrderEntry.code, if_neg hany]
  simp [OrderEntry.withheld]

/-- The READY head leaves, and the port is offered the room. -/
theorem State.responseLeaves_eq {s : State} {e : OrderEntry} {es : List OrderEntry} (h : s.path.orderList = e :: es)
    (hready : e.ready = true) : s.responseLeaves =
      (s.modPath fun p => { p with orderList := es, upstreamOut := some e.response }).takeNext := by
  have hleave : s.path.leave e = { s.path with orderList := es, upstreamOut := some e.response } := by
    rw [Path.leave, h]
    rfl
  simp only [State.responseLeaves, Path.readyHead_cons h hready, State.modPath, hleave]

/-- Settles O8: the head leaves and the port is offered the room; then the code of R15, case by case. -/
theorem readyHeadLeaves : Obligations.ReadyHeadLeaves := by
  refine ⟨fun s hrun => ⟨?_, fun hnone => ?_⟩, fun e => ⟨?_, ?_, ?_⟩⟩
  · intro e es hlist hready r
    rw [exec_upstreamResponseLeaves s hrun, State.responseLeaves_eq hlist hready]
    let u : State := s.modPath fun p => { p with orderList := es, upstreamOut := some e.response }
    refine ⟨fun hport => ?_, fun x xs hport hroom => ?_⟩
    · rw [State.takeNext_noPort u hport, State.commit_of_empty u (State.running_staged hrun)]
      rfl
    · obtain ⟨hp, hids, hout⟩ := State.takeNext_path (s := u) hport (u.hasRoom_iff.mpr hroom)
      refine ⟨_, rfl, ?_, ?_, ?_⟩
      · exact (State.commit_upstreamOut _).trans hout
      · exact (State.commit_port _).trans hp
      · rw [State.commit_orderList]
        exact hids
  · rw [exec_upstreamResponseLeaves s hrun, State.responseLeaves, hnone]
    exact congrArg Host.Outcome.next (s.commit_of_empty (State.running_staged hrun))
  · exact OrderEntry.code_memerr
  · intro hpieces hwrite hwithheld
    exact (OrderEntry.code_of_noMemerr hpieces).trans (if_pos ⟨hwrite, hwithheld⟩)
  · intro hpieces hnot
    refine (OrderEntry.code_of_noMemerr hpieces).trans (if_neg ?_)
    rintro ⟨hwrite, hwithheld⟩
    rcases hnot with h | h
    · exact Bool.false_ne_true (h.symm.trans hwrite)
    · exact h hwithheld

/-! ### Notices delivered (R10, R28, R74, R101) -/

/-- An entry whose only piece has been answered is READY (Table 1-2). -/
theorem OrderEntry.ready_of_answered {e : OrderEntry} {p : Piece} (hpieces : e.pieces = [p]) (h : p.state = .answered) :
    e.ready = true := by
  simp [OrderEntry.ready, OrderEntry.state, hpieces, h]

/-- A READY entry alone in the list has its notices delivered. -/
theorem State.settle_single {s : State} {e : OrderEntry} (h : s.path.orderList = [e]) (hready : e.ready = true) :
    s.settle = e.notices.foldl State.deliver (s.modPath fun p => { p with orderList := [{ e with notices := [] }] }) := by
  have hsettled : s.path.settled = [e] := by
    rw [Path.settled, h, List.takeWhile_cons_of_pos hready, List.takeWhile_nil]
  have hclear : s.path.clearSettled = { s.path with orderList := [{ e with notices := [] }] } := by
    rw [Path.clearSettled, hsettled, h, List.dropWhile_cons_of_pos hready, List.dropWhile_nil]
    rfl
  rw [State.settle, hsettled, State.modPath, hclear, List.flatMap_singleton]
  rfl

/-- A write's entry with its one piece answered OKAY and its notices delivered. -/
def OrderEntry.answeredOkay (e : OrderEntry) (p : Piece) : OrderEntry :=
  { e with pieces := [{ p with state := .answered, code := .okay, answer := [] }], notices := [] }

/-- The answer of the only piece of the only entry, a write's, delivers the notices of that entry. -/
theorem exec_onlyPieceAnswered {s : State} {e : OrderEntry} {p : Piece} (hrun : s.running = true)
    (hlist : s.path.orderList = [e]) (hwrite : e.isWrite = true) (hpieces : e.pieces = [p]) (hissued : p.state = .issued) :
    exec (.pieceAnswered 0 0 .okay []) s = .next (e.notices.foldl State.deliver
      (s.modPath fun q => { q with orderList := [e.answeredOkay p] })).commit := by
  have he : s.path.orderList[0]? = some e := by rw [hlist]; rfl
  have hp : e.pieces[0]? = some p := by rw [hpieces]; rfl
  have hset : (s.modPath fun q =>
      { q with
        orderList := q.orderList.set 0
          { e with pieces := e.pieces.set 0 (p.answerWith e.isWrite .okay []) } }).path.orderList
      = [{ e with pieces := [{ p with state := .answered, code := .okay, answer := [] }] }] := by
    simp [hlist, hpieces, Piece.answerWith, hwrite]
  rw [exec_pieceAnswered hrun he hp hissued (.inl hwrite),
    State.settle_single hset (OrderEntry.ready_of_answered rfl rfl)]
  rfl

/-- The notice of the load in flight, which waits for it, submits the load's first two reads (R28). -/
theorem State.planNoticed_awaiting {s : State} {l : Load} (hload : s.loader.load = some l)
    (hstage : l.stage = .awaitingNotice) :
    s.planNoticed l.serial =
      ((s.modLoader fun p => { p with load := some l.begin }).submitPlanRead l.serial 0).submitPlanRead l.serial 1 := by
  have hof : s.loadOf l.serial = some l := by simp [State.loadOf, hload]
  simp only [State.planNoticed, hof, hstage]

theorem Slot.awaits_iff (sl : Slot) (n : Nat) : sl.awaits n = true ↔ sl.state = .fetching ∧ sl.fetch = some n := by
  simp [Slot.awaits]

/-- A request joins an empty queue (R18). -/
theorem Path.join_empty {p : Path} (r : Request) (hq : p.queue = []) (hw : p.waitList = []) :
    p.join r = { p with queue := [r] } := by
  simp [Path.join, hq, hw]

/-- The two reads join an empty queue in their order (R18). -/
theorem State.commit_planReads {s : State} (serial : Nat) (hstaged : s.path.staged = []) (hq : s.path.queue = [])
    (hw : s.path.waitList = []) : ((s.submitPlanRead serial 0).submitPlanRead serial 1).commit =
      s.modPath fun p => { p with queue := [⟨.planRead serial 0, false, planBase s.planSel, 16, []⟩,
        ⟨.planRead serial 1, false, planBase s.planSel + 64, 16, []⟩] } := by
  have hzero : planBase s.planSel + BitVec.ofNat 40 (64 * 0) = planBase s.planSel := BitVec.add_zero _
  have hjoin : ∀ a b : Addr, joinOrder [⟨.planRead serial 0, false, a, 16, []⟩, ⟨.planRead serial 1, false, b, 16, []⟩]
      = [⟨.planRead serial 0, false, a, 16, []⟩, ⟨.planRead serial 1, false, b, 16, []⟩] := fun _ _ => rfl
  simp only [State.commit, State.submitPlanRead, State.submit, State.modPath, hstaged, hzero, List.nil_append,
    List.cons_append, hjoin, List.foldl_cons, List.foldl_nil, Path.join, hq, hw]
  rfl

/-- Settles O12: the entry's notice is delivered (`exec_onlyPieceAnswered`), and what it submits joins the empty queue. -/
theorem answeredTriggerDeliversNotice : Obligations.AnsweredTriggerDeliversNotice := by
  intro s e p hrun hqueue hwait hlist hwrite hpieces hissued settled
  let u : State := s.modPath fun q => { q with orderList := [e.answeredOkay p] }
  have hstaged : u.path.staged = [] := State.running_staged hrun
  rw [exec_onlyPieceAnswered hrun hlist hwrite hpieces hissued]
  refine ⟨fun l hload hstage hnotices => ?_, fun l i n a hnotices haddr => ?_, fun r i hnotices => ?_⟩
  all_goals rw [hnotices, List.foldl_cons, List.foldl_nil]
  · have hdeliver : u.deliver (.plan l.serial) =
        ((u.modLoader fun q => { q with load := some l.begin }).submitPlanRead l.serial 0).submitPlanRead l.serial 1 :=
      State.planNoticed_awaiting hload hstage
    rw [hdeliver, State.commit_planReads (s := u.modLoader _) l.serial hstaged hqueue hwait]
    rfl
  · have hdeliver : u.deliver (.fetch l i n) = if (s.slot l i).awaits n then u.submitFetch l i n else u := rfl
    rw [hdeliver]
    refine ⟨fun hstate hfetch => ?_, fun hnot => ?_⟩
    · have hsubmit : u.submitFetch l i n = u.submit ⟨.fetch l i n, false, a, 8, []⟩ := by
        have haddr' : u.plan.windowAddr (.post l) (slotOffset i) = some a := haddr
        rw [State.submitFetch, haddr']
      rw [if_pos ((Slot.awaits_iff _ n).mpr ⟨hstate, hfetch⟩), hsubmit,
        State.commit_submit u _ hstaged (Purpose.rank_lt _), State.modPath, Path.join_empty (p := u.path) _ hqueue hwait]
      rfl
    · have hidle : ¬ (s.slot l i).awaits n = true := by
        rw [Slot.awaits_iff]
        rintro ⟨hstate, hfetch⟩
        exact hnot.elim (· hstate) (· hfetch)
      rw [if_neg hidle, State.commit_of_empty u hstaged]
      rfl
  · exact congrArg Host.Outcome.next (State.commit_of_empty (u.deliver (.release r i)) hstaged)

end Sys2Proof.Machine
end

section
/-! The taking of a transfer: its pieces, its notices, plain words (O4), withheld beats (O5). -/

namespace Sys2Proof.Machine

/-! ### Pieces (R13) -/

/-- Beats that all pass go on with the run before them. -/
theorem passRuns_replicate_pass (k n m : Nat) (hm : n + m ≠ 0) :
    passRuns k n (List.replicate m .pass) = [(k - n, n + m)] := by
  induction m generalizing k n with
  | zero => simpa [passRuns] using hm
  | succ m ih =>
    have hpass : Disposition.pass.passes = true := rfl
    rw [List.replicate_succ, passRuns, if_pos hpass, ih _ _ (by omega), Nat.add_sub_add_right, Nat.add_right_comm,
      Nat.add_assoc]

/-- A run is open, or a beat passes: there is a piece. -/
theorem passRuns_ne_nil (k n : Nat) (ds : List Disposition) (h : n ≠ 0 ∨ ∃ d ∈ ds, d.passes = true) :
    passRuns k n ds ≠ [] := by
  induction ds generalizing k n with
  | nil =>
    rcases h with h | ⟨d, hd, -⟩
    · simp [passRuns, h]
    · cases hd
  | cons d ds ih =>
    rw [passRuns]
    split
    next hpass => exact ih _ _ (.inl (Nat.succ_ne_zero n))
    next hpass =>
      split
      next hn =>
        refine ih _ _ (.inr ?_)
        obtain hn' | ⟨d', hd', hp⟩ := h
        · exact absurd hn hn'
        · rcases List.mem_cons.mp hd' with rfl | hmem
          · exact absurd hp hpass
          · exact ⟨d', hmem, hp⟩
      · exact List.cons_ne_nil _ _

/-- A transfer with a beat that passes is not READY when it is taken. -/
theorem newEntry_notReady (t : Transfer) (ds : List Disposition) (snap : List (Option Word)) (ns : List Notice)
    (h : ∃ d ∈ ds, d.passes = true) : (newEntry t ds snap ns).ready = false := by
  obtain ⟨r, rs, hruns⟩ := List.exists_cons_of_ne_nil (passRuns_ne_nil 0 0 ds (.inr h))
  have hpieces : (newEntry t ds snap ns).pieces = piecesOf t ds := rfl
  simp [OrderEntry.ready, OrderEntry.state, hpieces, piecesOf, hruns]

/-! ### The effects of a write (R9) -/

/-- A beat that is no accepted trigger gives no notice. -/
theorem State.beatEffect_notices (j : State) (ts : List Touch) (acc : State × List Notice) (x : Touch)
    (h : j.beatDisposition ts x ≠ .passTrigger) : (j.beatEffect ts acc x).2 = acc.2 := by
  unfold State.beatEffect
  split
  · split <;> rfl
  · rw [if_neg h]

/-- A write without an accepted trigger gives no notice. -/
theorem State.writeEffects_notices (s : State) (ts : List Touch) (h : ∀ x ∈ ts, s.beatDisposition ts x ≠ .passTrigger) :
    (s.writeEffects ts).2 = [] := by
  have hfold : ∀ (xs : List Touch) (acc : State × List Notice), (∀ x ∈ xs, s.beatDisposition ts x ≠ .passTrigger) →
      (xs.foldl (s.beatEffect ts) acc).2 = acc.2 := by
    intro xs
    induction xs with
    | nil => intro acc _; rfl
    | cons x xs ih =>
      intro acc hx
      rw [List.foldl_cons, ih _ fun y hy => hx y (List.mem_cons_of_mem _ hy),
        State.beatEffect_notices s ts acc x (hx x List.mem_cons_self)]
  exact hfold ts (s, []) h

/-! ### Taking (R1) -/

/-- An entry as taken waits for memory, or it has no notice: a notice comes from an accepted trigger, whose beat passes. -/
theorem State.newEntry_notReady_or_noNotices (s : State) (t : Transfer) :
    (newEntry t (s.dispositions t) (s.snapshotOf t) (s.takeEffects t).2).ready = false ∨ (s.takeEffects t).2 = [] := by
  by_cases h : ∃ d ∈ s.dispositions t, d.passes = true
  · exact .inl (newEntry_notReady t _ _ _ h)
  · refine .inr ?_
    unfold State.takeEffects
    split
    · rfl
    next bs hop =>
      refine s.writeEffects_notices _ fun x hx htrigger => h ⟨.passTrigger, ?_, rfl⟩
      rw [State.dispositions, hop, ← htrigger]
      exact List.mem_map_of_mem hx

/-- The taking of a transfer with nothing left to deliver: its effects, its capture, and one more entry. -/
theorem State.taking_of_delivered (s : State) (t : Transfer) (h : s.path.delivered = true) :
    s.taking t = ((s.takeEffects t).1.captureWithheld t (s.dispositions t)).withEntry
      (newEntry t (s.dispositions t) (s.snapshotOf t) (s.takeEffects t).2) :=
  s.taking_eq t h (s.takeEffects_path t) (s.newEntry_notReady_or_noNotices t)

theorem exec_upstreamTransferTaken (s : State) (t : Transfer) (h : t.wf = true) :
    exec (.upstreamTransferTaken t) s = .next (s.presentTransfer t) := if_pos h

/-! ### Plain words (R4, R5) -/

theorem WordRef.eq_plain {r : WordRef} (h : r.wordClass = .plain) : r = .plain := by
  cases r with
  | plain => rfl
  | _ => cases h

/-- A transfer that addresses nothing of the part's. -/
theorem State.refsOf_plain {s : State} {t : Transfer} (h : ∀ r ∈ s.refsOf t, r.wordClass = .plain) :
    s.refsOf t = List.replicate t.beatCount .plain :=
  List.eq_replicate_iff.mpr ⟨by simp [State.refsOf], fun r hr => WordRef.eq_plain (h r hr)⟩

theorem State.touches_plain {s : State} {t : Transfer} (h : s.refsOf t = List.replicate t.beatCount .plain) :
    ∀ x ∈ s.touches t, x.1 = .plain := by
  intro x hx
  have hmem : x.1 ∈ s.refsOf t := (List.of_mem_zip hx).1
  rw [h] at hmem
  exact List.eq_of_mem_replicate hmem

theorem State.touches_length (s : State) (t : Transfer) : (s.touches t).length = (writeBeats t).length := by
  cases t with
  | mk id start op => cases op <;> simp [State.touches, State.refsOf, writeBeats, Transfer.beatCount]

theorem State.beatDisposition_plain (s : State) (ts : List Touch) {x : Touch} (h : x.1 = .plain) :
    s.beatDisposition ts x = .pass := by
  simp [State.beatDisposition, State.writeDisposition, h, WordRef.wordClass]

theorem State.dispositions_plain {s : State} {t : Transfer} (h : s.refsOf t = List.replicate t.beatCount .plain) :
    s.dispositions t = List.replicate t.beatCount .pass := by
  have htouches := State.touches_plain h
  have hlength := s.touches_length t
  unfold State.dispositions
  split
  next n hop => rw [h, List.map_replicate]; rfl
  next bs hop =>
    refine List.eq_replicate_iff.mpr ⟨?_, ?_⟩
    · rw [List.length_map, hlength, writeBeats, Transfer.beatCount, hop]
    · intro d hd
      obtain ⟨x, hx, rfl⟩ := List.mem_map.mp hd
      exact s.beatDisposition_plain _ (htouches x hx)

theorem State.snapshotOf_plain {s : State} {t : Transfer} (h : s.refsOf t = List.replicate t.beatCount .plain) :
    s.snapshotOf t = if isWriteTransfer t then [] else List.replicate t.beatCount none := by
  unfold State.snapshotOf isWriteTransfer
  split
  · rw [h, List.map_replicate]; rfl
  · rfl

theorem State.takeWords_nil (s : State) : s.takeWords [] = s := by
  simp [State.takeWords, State.modStatus]

/-- A read of plain words has no read-side action (R12). -/
theorem State.readActions_plain (s : State) (n : Nat) : s.readActions (List.replicate n .plain) = s := by
  have hlive : liveCovered (List.replicate n .plain) = [] := by simp [liveCovered]
  have hecho : echoCovered (List.replicate n .plain) = [] := by
    simp [echoCovered]
  rw [State.readActions, hlive, hecho, State.takeWords_nil]
  rfl

/-- A write of plain words has no effect on the part. -/
theorem State.writeEffects_plain (s : State) (ts : List Touch) (h : ∀ x ∈ ts, x.1 = .plain) :
    s.writeEffects ts = (s, []) := by
  have hfold : ∀ xs : List Touch, (∀ x ∈ xs, x.1 = .plain) → xs.foldl (s.beatEffect ts) (s, []) = (s, []) := by
    intro xs
    induction xs with
    | nil => intro _; rfl
    | cons x xs ih =>
      intro hx
      have hplain : x.1 = .plain := hx x List.mem_cons_self
      have hbeat : s.beatEffect ts (s, []) x = (s, []) := by
        simp [State.beatEffect, hplain, s.beatDisposition_plain ts hplain]
      rw [List.foldl_cons, hbeat, ih fun y hy => hx y (List.mem_cons_of_mem _ hy)]
  exact hfold ts h

theorem State.takeEffects_plain {s : State} {t : Transfer} (h : s.refsOf t = List.replicate t.beatCount .plain) :
    s.takeEffects t = (s, []) := by
  unfold State.takeEffects
  split
  · rw [h, s.readActions_plain]
  · exact s.writeEffects_plain _ (State.touches_plain h)

theorem State.captureWithheld_pass (s : State) (t : Transfer) (n : Nat) :
    s.captureWithheld t (List.replicate n .pass) = s := by
  have hnone : firstWithheld (List.replicate n .pass) = none := by
    rw [firstWithheld, List.findIdx?_eq_none_iff]
    intro d hd
    rw [List.eq_of_mem_replicate hd]
    rfl
  rw [State.captureWithheld, hnone]

theorem Transfer.beatCount_pos {t : Transfer} (h : t.wf = true) : 0 < t.beatCount := by
  simp only [Transfer.wf, beatCountOk, Bool.and_eq_true, decide_eq_true_eq] at h
  omega

/-- Beats that all pass are one piece (R13). -/
theorem piecesOf_pass {t : Transfer} (h : t.wf = true) :
    piecesOf t (List.replicate t.beatCount .pass) = [⟨0, t.beatCount, writeBeats t, .unissued, .okay, []⟩] := by
  have hall : (writeBeats t).take t.beatCount = writeBeats t := by
    refine List.take_of_length_le ?_
    cases t with
    | mk id start op => cases op <;> simp [writeBeats, Transfer.beatCount]
  rw [piecesOf, passRuns_replicate_pass 0 0 _ (by have := Transfer.beatCount_pos h; omega)]
  simp [hall]

theorem State.takeNext_noRoom (s : State) (h : s.hasRoom = false) : s.takeNext = s := by
  unfold State.takeNext
  split
  · rfl
  · rw [h, if_neg Bool.false_ne_true]

/-- A transfer waits on the port while RESET_N is asserted, and while the list is full. -/
theorem State.presentTransfer_waits (s : State) (t : Transfer)
    (h : s.inReset = true ∨ s.hasRoom = false ∧ s.path.staged = []) :
    s.presentTransfer t = s.modPath fun p => { p with port := p.port ++ [t] } := by
  unfold State.presentTransfer
  dsimp only
  split
  · rfl
  next hreset =>
    obtain hreset' | ⟨hroom, hstaged⟩ := h
    · exact absurd hreset' hreset
    · have htake : (s.modPath fun p => { p with port := p.port ++ [t] }).takeNext
          = s.modPath fun p => { p with port := p.port ++ [t] } := State.takeNext_noRoom _ hroom
      rw [htake]
      exact State.commit_of_empty _ hstaged

/-- Settles O4: on plain words every decision passes and there is no effect; otherwise the transfer joins the port. -/
theorem transferTakenOrWaits : Obligations.TransferTakenOrWaits := by
  refine ⟨fun t s hwf hnow hplain => ?_, fun t s hwf hwait => ?_⟩
  · obtain ⟨-, -, -, hstaged, hdelivered⟩ := s.takesNow_iff.mp hnow
    have hrefs := State.refsOf_plain hplain
    rw [exec_upstreamTransferTaken s t hwf, s.presentTransfer_now t hnow, s.taking_of_delivered t hdelivered,
      State.takeEffects_plain hrefs, State.dispositions_plain hrefs, State.snapshotOf_plain hrefs,
      State.captureWithheld_pass, State.commit_of_empty (s.withEntry _) hstaged, newEntry, piecesOf_pass hwf]
  · rw [exec_upstreamTransferTaken s t hwf, s.presentTransfer_waits t]
    · rfl
    · refine hwait.imp id fun ⟨hlist, hstaged⟩ => ⟨?_, hstaged⟩
      simp [State.hasRoom, hlist]

/-! ### Withheld writes (R15, R16) -/

theorem Cause.bit_ne_zero (c : Cause) : c.bit ≠ 0 := by cases c <;> decide

/-- A cause raised is set (R166). -/
theorem State.raise_caused (s : State) (c : Cause) : (s.raise c).caused c = true := by
  have hbit : (s.status.causes ||| c.bit) &&& c.bit = c.bit := by
    ext i
    simpa using fun h => .inr h
  have hset : (s.raise c).status.causes = s.status.causes ||| c.bit := rfl
  simpa [State.caused, State.hasCause, hset, hbit] using c.bit_ne_zero

/-- The capture of a transfer whose lowest-numbered withheld beat is `k` (R16). -/
theorem State.captureWithheld_some (s : State) (t : Transfer) {ds : List Disposition} {k : Nat}
    (h : firstWithheld ds = some k) : (s.captureWithheld t ds).status.lastWithheld = beatAddr t k
      ∧ (s.captureWithheld t ds).status.withheld = satInc s.status.withheld
      ∧ (s.captureWithheld t ds).caused .withheld = true := by
  rw [State.captureWithheld, h]
  exact ⟨rfl, rfl, State.raise_caused _ _⟩

theorem mem_withhold_of_firstWithheld {ds : List Disposition} {k : Nat} (h : firstWithheld ds = some k) :
    .withhold ∈ ds := by
  obtain ⟨hlt, hk, -⟩ := List.findIdx?_eq_some_iff_getElem.mp h
  exact List.mem_of_getElem (beq_iff_eq.mp hk)

/-- No piece of an entry as taken has been answered. -/
theorem newEntry_code (t : Transfer) (ds : List Disposition) (snap : List (Option Word)) (ns : List Notice) :
    (newEntry t ds snap ns).code = if isWriteTransfer t = true ∧ .withhold ∈ ds then .denied else .okay := by
  refine OrderEntry.code_of_noMemerr fun p hp => ?_
  obtain ⟨r, -, rfl⟩ := List.mem_map.mp hp
  exact nofun

/-- Settles O5: the capture is that of the state after the effects, which keep WRITES WITHHELD. -/
theorem withheldWriteCaptured : Obligations.WithheldWriteCaptured := by
  intro t s k hwf hwrite hnow hk
  obtain ⟨-, -, -, -, hdelivered⟩ := s.takesNow_iff.mp hnow
  have hmem : .withhold ∈ s.dispositions t := mem_withhold_of_firstWithheld hk
  obtain ⟨haddr, hcaptured, hraised⟩ := State.captureWithheld_some (s.takeEffects t).1 t hk
  have hcount : (s.takeEffects t).1.status.withheld = s.status.withheld := by
    unfold State.takeEffects
    split
    next n hop => simp [isWriteTransfer, hop] at hwrite
    next bs hop => exact (s.writeEffects_within _).withheld
  have hlist : ((s.takeEffects t).1.captureWithheld t (s.dispositions t)).path.orderList = s.path.orderList := by
    obtain ⟨rs, hrs⟩ := s.takeEffects_path t
    rw [State.captureWithheld_path, hrs]
  rw [exec_upstreamTransferTaken s t hwf, s.presentTransfer_now t hnow, s.taking_of_delivered t hdelivered]
  refine ⟨_, rfl, haddr, hcaptured.trans (congrArg satInc hcount), hraised,
    newEntry t (s.dispositions t) (s.snapshotOf t) (s.takeEffects t).2, ?_, rfl, ?_, ?_⟩
  · rw [State.commit_orderList]
    exact congrArg (· ++ [_]) hlist
  · exact List.contains_iff_mem.mpr hmem
  · exact (newEntry_code _ _ _ _).trans (if_pos ⟨hwrite, hmem⟩)

end Sys2Proof.Machine
end

section
/-! The start reset and the stamp (O3), and the three invariants right after reset (O10). -/

namespace Sys2Proof.Machine

/-! ### What the taking of a transfer keeps (R22, R159) -/

theorem TakeCounter.set_stamp (k : TakeCounter) (v : Counter) (s : State) : (k.set v s).status.stamp = s.status.stamp := by
  cases k with
  | link l k => cases k <;> rfl
  | _ => rfl

theorem State.takeWords_stamp (s : State) (ws : List Nat) : (s.takeWords ws).status.stamp = s.status.stamp := by
  have hfold : ∀ (l : List TakeCounter) (t : State),
      (l.foldl (fun t k => t.takeCounter (k.get s) k) t).status.stamp = t.status.stamp := by
    intro l
    induction l with
    | nil => intro t; rfl
    | cons k l ih =>
      intro t
      rw [List.foldl_cons, ih]
      exact TakeCounter.set_stamp _ _ _
  exact hfold _ s

theorem State.takeEffects_stamp (s : State) (t : Transfer) : (s.takeEffects t).1.status.stamp = s.status.stamp := by
  unfold State.takeEffects
  split
  · exact (State.latentFetch_commSide _ _).stamp.trans (s.takeWords_stamp _)
  · exact (s.writeEffects_within _).stamp

theorem State.captureWithheld_keeps (s : State) (t : Transfer) (ds : List Disposition) :
    (s.captureWithheld t ds).inReset = s.inReset ∧ (s.captureWithheld t ds).status.stamp = s.status.stamp := by
  unfold State.captureWithheld
  split <;> exact ⟨rfl, rfl⟩

/-- No transfer touches the reset or the stamp. -/
theorem State.taking_keeps (s : State) (t : Transfer) :
    (s.taking t).inReset = s.inReset ∧ (s.taking t).status.stamp = s.status.stamp := by
  obtain ⟨hcr, hcs⟩ := (s.takeEffects t).1.captureWithheld_keeps t (s.dispositions t)
  obtain ⟨-, her, -⟩ := s.takeEffects_pending t
  have hsettle := State.settle_within (((s.takeEffects t).1.captureWithheld t (s.dispositions t)).modPath fun p =>
    { p with orderList := p.orderList ++ [newEntry t (s.dispositions t) (s.snapshotOf t) (s.takeEffects t).2] })
  exact ⟨hsettle.inReset.trans (hcr.trans her), hsettle.stamp.trans (hcs.trans (s.takeEffects_stamp t))⟩

theorem State.takeNext_keeps (s : State) :
    s.takeNext.inReset = s.inReset ∧ s.takeNext.status.stamp = s.status.stamp := by
  unfold State.takeNext
  split
  · exact ⟨rfl, rfl⟩
  · split
    · exact State.taking_keeps _ _
    · exact ⟨rfl, rfl⟩

theorem State.takeUpTo_keeps (n : Nat) (s : State) :
    (State.takeUpTo n s).inReset = s.inReset ∧ (State.takeUpTo n s).status.stamp = s.status.stamp := by
  induction n generalizing s with
  | zero => exact ⟨rfl, rfl⟩
  | succ n ih =>
    obtain ⟨hr, hs⟩ := ih s.takeNext
    obtain ⟨hr', hs'⟩ := s.takeNext_keeps
    exact ⟨hr.trans hr', hs.trans hs'⟩

/-- The port is taken from its front, in order, until `n` have been taken or the list is full (R1). -/
theorem State.takeUpTo_path (n : Nat) (s : State) :
    (State.takeUpTo n s).path.port = s.path.port.drop (min n (16 - s.path.orderList.length))
      ∧ (State.takeUpTo n s).path.orderList.map (·.id) = s.path.orderList.map (·.id)
        ++ (s.path.port.take (min n (16 - s.path.orderList.length))).map (·.id) := by
  induction n generalizing s with
  | zero => simp [State.takeUpTo]
  | succ n ih =>
    obtain ⟨hport, hids⟩ := ih s.takeNext
    rw [State.takeUpTo, hport, hids]
    cases hp : s.path.port with
    | nil => simp [s.takeNext_noPort hp, hp]
    | cons t ts =>
      by_cases hroom : s.path.orderList.length < 16
      · obtain ⟨hport', hids', -⟩ := State.takeNext_path hp (s.hasRoom_iff.mpr hroom)
        have hlength : s.takeNext.path.orderList.length = s.path.orderList.length + 1 := by
          simpa using congrArg List.length hids'
        have hmin : min (n + 1) (16 - s.path.orderList.length)
            = min n (16 - (s.path.orderList.length + 1)) + 1 := by omega
        rw [hport', hids', hlength, hmin]
        simp
      · have hfull : s.hasRoom = false := by
          rw [← Bool.not_eq_true, s.hasRoom_iff]
          exact hroom
        have hzero : 16 - s.path.orderList.length = 0 := by omega
        simp [s.takeNext_noRoom hfull, hp, hzero]

/-! ### The end of the reset (R22, R139, R158, R159) -/

/-- The state whose inputs have been read and whose stamp starts, with the port not yet opened. -/
def State.inputsRead (s : State) (i : InputLevels) : State :=
  { s with
    inReset := false
    chans := updateAll s.chans fun c ch => ch.readEnds (look i.endOut c) (look i.endIn c)
    esl := i.esl
    status := { s.status with stamp := 0 } }

theorem exec_resetEnd (s : State) (i : InputLevels) : exec (.resetEnd i) s = .next
    (if s.inReset then (State.takeUpTo s.path.port.length (s.inputsRead i)).commit else s) := rfl

/-- RESET_END of a reset that runs: up to 16 transfers are taken from the port. -/
theorem State.resetEnds_outcome (s : State) (i : InputLevels) (hpath : s.path = { Path.reset with port := s.path.port }) :
    let t := (State.takeUpTo s.path.port.length (s.inputsRead i)).commit
    t.inReset = false ∧ t.status.stamp = 0 ∧ t.path.port = s.path.port.drop 16
      ∧ t.path.orderList.map (·.id) = (s.path.port.take 16).map (·.id)
      ∧ (s.path.port = [] → t = s.inputsRead i) := by
  intro t
  have hempty : s.path.orderList = [] := by rw [hpath]; rfl
  have hstaged : s.path.staged = [] := by rw [hpath]; rfl
  obtain ⟨hreset, hstamp⟩ := State.takeUpTo_keeps s.path.port.length (s.inputsRead i)
  obtain ⟨hport, hids⟩ := State.takeUpTo_path s.path.port.length (s.inputsRead i)
  have hread : (s.inputsRead i).path = s.path := rfl
  simp only [hread, hempty, List.length_nil, Nat.sub_zero, List.map_nil, List.nil_append] at hport hids
  refine ⟨hreset, hstamp, ?_, ?_, fun hp => ?_⟩
  · rw [State.commit_port, hport, Nat.min_comm, ← List.drop_eq_drop_min]
  · rw [State.commit_orderList, hids, Nat.min_comm, ← List.take_eq_take_min]
  · have htake : State.takeUpTo s.path.port.length (s.inputsRead i) = s.inputsRead i := by rw [hp]; rfl
    exact (congrArg State.commit htake).trans ((s.inputsRead i).commit_of_empty hstaged)

/-! ### The stamp (R133, R159) -/

theorem exec_stampTick (s : State) (h : s.running = true) : exec .stampTick s = .next s.tick :=
  congrArg Host.Outcome.next (s.event_eq State.tick h (State.running_staged h))

theorem State.tick_chan (s : State) (c : ChanId) : s.tick.chan c = (s.chan c).atStamp (s.status.stamp + 1) :=
  look_map _ _ _

/-- The duty of a motion follows the stamp (R133); nothing else of its channel does. -/
theorem Channel.atStamp_motion {ch : Channel} {m : Motion} (now : Stamp) (h : ch.motion = some m) :
    ch.atStamp now = { ch with duty := m.dutyAt now } := by
  unfold Channel.atStamp
  split
  next hnone => rw [h] at hnone; cases hnone
  next m' hm' => rw [Option.some.inj (h.symm.trans hm')]

/-- Settles O3, command by command. -/
theorem resetAndTick : Obligations.ResetAndTick := by
  refine ⟨fun planSel s => rfl, fun i s => ⟨fun hreset hpath => ?_, fun hreset => ?_⟩, fun s hrun => ?_⟩
  · rw [exec_resetEnd, if_pos hreset]
    exact ⟨_, rfl, s.resetEnds_outcome i hpath⟩
  · rw [exec_resetEnd, hreset, if_neg Bool.false_ne_true]
  · refine ⟨s.tick, exec_stampTick s hrun, rfl, fun c => ⟨fun hm => ?_, fun m hm => ?_⟩⟩
    · rw [s.tick_chan, Channel.atStamp, hm]
    · rw [s.tick_chan, Channel.atStamp_motion _ hm]
      rfl

/-! ### Right after reset -/

theorem Path.reset_sound : Path.reset.sound = true := rfl

theorem Channel.reset_sound : Channel.reset.sound Protection.reset = true := rfl

theorem Ring.reset_sound : Ring.reset.sound = true := by decide

/-- Under the empty plan there is no guard (R45, R150). -/
theorem State.reset_guardResults : State.reset.guardResults = State.reset.guards := by
  refine look_ext fun i => ?_
  simp [State.guardResults, State.plan, State.reset, PlanLoader.reset, Plan.empty]

theorem State.reset_chan (c : ChanId) : State.reset.chan c = Channel.reset := look_replicate _ _
theorem State.reset_prot (c : ChanId) : State.reset.prot c = Protection.reset := look_replicate _ _
theorem State.reset_ring (r : RingId) : State.reset.ring r = Ring.reset := look_replicate _ _
theorem State.reset_router (l : LinkId) : State.reset.router l = Router.reset := look_replicate _ _

theorem State.reset_driveSound : State.reset.driveSound = true := by
  have hchan : ∀ c, ((State.reset.chan c).sound (State.reset.prot c) && (State.reset.chan c).state.allowed false false
      && !State.reset.unguarded c) = true := by
    intro c
    rw [State.unguarded, State.reset_chan, State.reset_prot]
    rfl
  rw [State.driveSound, State.reset_guardResults, beq_self_eq_true, Bool.and_true, Bool.and_eq_true]
  exact ⟨List.all_eq_true.mpr fun c _ => hchan c, rfl⟩

/-- No message is on its way into a ring. -/
theorem State.reset_claims (r : RingId) : State.reset.claims r = [] := by
  rw [State.claims, State.reset_router, State.reset_router]
  rfl

theorem State.reset_ringsSound : State.reset.ringsSound = true := by
  simp only [State.ringsSound, State.reset_ring, State.reset_router, State.reset_claims, Ring.reset_sound]
  rfl

/-- Settles O10: every channel, ring and router is at its reset value. -/
theorem soundAtReset : Obligations.SoundAtReset :=
  ⟨Path.reset_sound, State.reset_driveSound, State.reset_ringsSound⟩

end Sys2Proof.Machine
end

section
/-! A plan coming into force, block by block: the Repeater, the poll cache, the links and their slots, the drive channels
(O15, O16). -/

namespace Sys2Proof.Machine

/-! ### The Repeater: what its operations change (R172 to R176) -/

/-- Only the Repeater and the memory path change. -/
def RepeaterSide (s t : State) : Prop := ∃ r p, t = { s with repeater := r, path := p }

namespace RepeaterSide

theorem refl (s : State) : RepeaterSide s s := ⟨s.repeater, s.path, rfl⟩

theorem trans {s t u : State} (h : RepeaterSide s t) (k : RepeaterSide t u) : RepeaterSide s u := by
  obtain ⟨_, _, rfl⟩ := h
  obtain ⟨r, p, rfl⟩ := k
  exact ⟨r, p, rfl⟩

end RepeaterSide

theorem State.modRepeater_repeaterSide (s : State) (f : Repeater → Repeater) : RepeaterSide s (s.modRepeater f) :=
  ⟨f s.repeater, s.path, rfl⟩

/-- The reads of a frame are submissions and nothing else. -/
theorem State.submitCover_eq (s : State) (g : Nat) (a : Addr) (ns : List Nat) :
    ∃ p, s.submitCover g a ns = { s with path := p } := by
  refine List.foldlRecOn (motive := fun t => ∃ p, t = { s with path := p }) _ _ ⟨s.path, rfl⟩ ?_
  rintro t ⟨p, rfl⟩ k -
  exact ⟨_, rfl⟩

theorem State.submitCover_repeaterSide (s : State) (g : Nat) (a : Addr) (ns : List Nat) :
    RepeaterSide s (s.submitCover g a ns) := by
  obtain ⟨p, hp⟩ := s.submitCover_eq g a ns
  exact ⟨s.repeater, p, hp⟩

theorem State.submitCover_repeater (s : State) (g : Nat) (a : Addr) (ns : List Nat) :
    (s.submitCover g a ns).repeater = s.repeater := by
  obtain ⟨p, hp⟩ := s.submitCover_eq g a ns
  rw [hp]

theorem State.frameDue_repeaterSide (s : State) : RepeaterSide s s.frameDue := by
  unfold State.frameDue
  split
  · exact .refl s
  · exact s.modRepeater_repeaterSide _
  · exact (s.modRepeater_repeaterSide _).trans (State.submitCover_repeaterSide _ _ _ _)

theorem State.beginCycle_repeaterSide (s : State) : RepeaterSide s s.beginCycle :=
  (s.modRepeater_repeaterSide _).trans (State.frameDue_repeaterSide _)

theorem State.restartRepeater_repeaterSide (s : State) : RepeaterSide s s.restartRepeater := by
  unfold State.restartRepeater
  dsimp only
  split
  · exact s.modRepeater_repeaterSide _
  · exact (s.modRepeater_repeaterSide _).trans (State.beginCycle_repeaterSide _)

/-- A frame that becomes ready changes the frame in hand and the frame number (R174). -/
theorem Repeater.ready_eq (r : Repeater) (rate : RepeaterRate) (b : Bool) (data : List Byte) :
    ∃ f n, r.ready rate b data = { r with frame := f, number := n } := by
  unfold Repeater.ready
  split
  · exact ⟨_, r.number, rfl⟩
  · exact ⟨_, _, rfl⟩

/-- A frame that falls due has no effect on the cycle, its timer and the frame finishing (R173). -/
theorem State.frameDue_repeater (s : State) :
    ∃ f n g, s.frameDue.repeater = { s.repeater with frame := f, number := n, gatherSerial := g } := by
  unfold State.frameDue
  split
  · exact ⟨s.repeater.frame, s.repeater.number, s.repeater.gatherSerial, rfl⟩
  · obtain ⟨f, n, hready⟩ := s.repeater.ready_eq s.plan.repeater.rate false (s.recordBytes _)
    exact ⟨f, n, s.repeater.gatherSerial, hready⟩
  · exact ⟨_, _, _, State.submitCover_repeater _ _ _ _⟩

/-- With a period of 0 the Repeater is OFF (R176). -/
theorem State.restartRepeater_off {s : State} (h : s.plan.repeater.period = 0) :
    s.restartRepeater.repeater =
      { s.repeater with
        finishing := s.repeater.leftFinishing, frame := .none, owed := false, cycle := .off, timer := none } := by
  simp only [State.restartRepeater, h, if_true]
  rfl

/-- With another period a cycle begins at position 0, and the period timer starts (R172, R176). -/
theorem State.restartRepeater_cycles {s : State} (h : s.plan.repeater.period ≠ 0) :
    ∃ f n g, s.restartRepeater.repeater =
      { s.repeater with
        finishing := s.repeater.leftFinishing, frame := f, owed := false, number := n, gatherSerial := g
        cycle := if s.plan.repeater.sources = [] then .idle else .cycling, position := 0
        timer := some (later s.now s.plan.repeater.period) } := by
  simp only [State.restartRepeater, if_neg h]
  obtain ⟨f, n, g, hdue⟩ := State.frameDue_repeater
    ((s.modRepeater fun r => r.newPlan s.plan.repeater.period s.now).modRepeater fun r =>
      { r with cycle := if s.plan.repeater.sources = [] then .idle else .cycling, position := 0 })
  refine ⟨f, n, g, hdue.trans ?_⟩
  simp [Repeater.newPlan, h]

/-- The frame that goes on to its end is the one being sent, or the one that was finishing (R176). -/
theorem Repeater.leftFinishing_eq (r : Repeater) :
    r.leftFinishing = match r.frame with | .sending f => some f | _ => r.finishing := by
  unfold Repeater.leftFinishing
  cases r.frame <;> rfl

/-! ### The links and their Send Controllers under a new plan (R41, R42) -/

/-- The send queue does not name a slot. -/
def SendCtl.unnamed (c : SendCtl) (i : SlotId) : Prop := ∀ x ∈ c.queue, x.ref ≠ .slot i

/-- A slot that the send queue does not name is as it was, and is still not named. -/
def KeepsUnnamed (i : SlotId) (c c' : SendCtl) : Prop := c.unnamed i → c'.unnamed i ∧ look c'.slots i = look c.slots i

namespace KeepsUnnamed

theorem refl (i : SlotId) (c : SendCtl) : KeepsUnnamed i c c := fun h => ⟨h, rfl⟩

theorem trans {i : SlotId} {a b c : SendCtl} (h : KeepsUnnamed i a b) (k : KeepsUnnamed i b c) : KeepsUnnamed i a c := by
  intro ha
  obtain ⟨hb, hab⟩ := h ha
  obtain ⟨hc, hbc⟩ := k hb
  exact ⟨hc, hbc.trans hab⟩

end KeepsUnnamed

theorem SendCtl.dropAsk_keepsUnnamed (c : SendCtl) (i : SlotId) (p : PollId) : KeepsUnnamed i c (c.dropAsk p) := by
  refine fun h => ⟨fun x hx => h x ?_, rfl⟩
  simp only [SendCtl.dropAsk] at hx
  split at hx
  · exact List.mem_of_mem_filter hx
  · exact hx

/-- What an item joins to is kept, with the item beside it (R75). -/
theorem mem_insertItem {count : Word} {x y : QueueItem} {q : List QueueItem} :
    y ∈ insertItem count x q ↔ y = x ∨ y ∈ q := by
  induction q with
  | nil => simp [insertItem]
  | cons z zs ih =>
    rw [insertItem]
    split
    · simp
    · simp [ih, or_left_comm]

theorem SendCtl.enqueueAsk_keepsUnnamed (c : SendCtl) (i : SlotId) (p : PollId) (tag : Tag) (priority : Nat) :
    KeepsUnnamed i c (c.enqueueAsk p tag priority) := by
  refine fun h => ⟨fun x hx => ?_, rfl⟩
  obtain rfl | hx := mem_insertItem.mp hx
  · exact nofun
  · exact h x hx

/-- Only the slot at the head of the queue goes on the wire (R76). -/
theorem SendCtl.giveHead_keepsUnnamed (c : SendCtl) (i : SlotId) (k : LinkCtl) : KeepsUnnamed i c (c.giveHead k) := by
  intro h
  unfold SendCtl.giveHead
  split
  · exact ⟨h, rfl⟩
  next x hx =>
    have hhead : x ∈ c.queue := by
      unfold LinkCtl.takes at hx
      split at hx
      · exact List.mem_of_head? hx
      · cases hx
    have htail : ∀ y ∈ c.queue.tail, y.ref ≠ .slot i := fun y hy => h y (List.mem_of_mem_tail hy)
    cases href : x.ref with
    | poll => exact ⟨htail, rfl⟩
    | slot j =>
      have hne : j ≠ i := by
        rintro rfl
        exact h x hhead href
      exact ⟨htail, look_update_of_ne _ _ hne⟩

theorem State.pollTake_keepsUnnamed (s : State) (l m : LinkId) (i : SlotId) :
    KeepsUnnamed i (s.sender m) ((s.pollTake l).sender m) := by
  by_cases hm : m = l
  · subst hm
    simp only [State.pollTake, State.kick, State.sender, look_update_self]
    refine KeepsUnnamed.trans ?_ (SendCtl.giveHead_keepsUnnamed _ i _)
    split
    · exact .refl i _
    · exact SendCtl.enqueueAsk_keepsUnnamed _ i _ _ _
  · obtain ⟨-, hsender, -⟩ := (s.pollTake_linkSide l).others m hm
    rw [hsender]
    exact .refl i _

theorem State.dropAsk_keepsUnnamed (s : State) (l m : LinkId) (p : PollId) (i : SlotId) :
    KeepsUnnamed i (s.sender m) ((s.dropAsk l p).sender m) := by
  by_cases hm : m = l
  · subst hm
    simp only [State.dropAsk, State.sender, look_update_self]
    exact SendCtl.dropAsk_keepsUnnamed _ i p
  · obtain ⟨-, hsender, -⟩ := (s.dropAsk_linkSide l p).others m hm
    rw [hsender]
    exact .refl i _

/-- Whatever every dropping of an ASK keeps is kept by a new poll table's (R42). -/
theorem State.dropAsks_induction {P : State → Prop} (s : State) (old new : Plan) (h : P s)
    (hdrop : ∀ t l p, P t → P (t.dropAsk l p)) : P (s.dropAsks old new) := by
  refine List.foldlRecOn _ _ h fun t ht p _ => ?_
  split
  · exact ht
  · split
    · exact hdrop t _ p ht
    · exact ht

theorem State.dropAsks_entries (s : State) (old new : Plan) : (s.dropAsks old new).poll.entries = s.poll.entries :=
  s.dropAsks_induction (P := fun t => t.poll.entries = s.poll.entries) old new rfl fun _ _ _ h => h

theorem State.dropAsks_links (s : State) (old new : Plan) : (s.dropAsks old new).links = s.links :=
  s.dropAsks_induction (P := fun t => t.links = s.links) old new rfl fun _ _ _ h => h

theorem State.dropAsks_keepsUnnamed (s : State) (old new : Plan) (l : LinkId) (i : SlotId) :
    KeepsUnnamed i (s.sender l) ((s.dropAsks old new).sender l) :=
  s.dropAsks_induction (P := fun t => KeepsUnnamed i (s.sender l) (t.sender l)) old new (.refl i _)
    fun t m p h => h.trans (t.dropAsk_keepsUnnamed m l p i)

/-- The mode of a link, the mode that waits, and its health. -/
def LinkCtl.standing (k : LinkCtl) : Mode × Option Mode × Health := (k.mode, k.pendingMode, k.health)

theorem LinkCtl.takeHead_standing (k : LinkCtl) (c : SendCtl) : (k.takeHead c).standing = k.standing := by
  unfold LinkCtl.takeHead
  split <;> rfl

theorem LinkCtl.newRecovery_standing (k : LinkCtl) (old new : RecoverySetting) :
    (k.newRecovery old new).standing = k.standing := by
  unfold LinkCtl.newRecovery
  split
  · rfl
  · split <;> rfl

theorem State.pollTake_standing (s : State) (l m : LinkId) : ((s.pollTake l).link m).standing = (s.link m).standing := by
  simp only [State.pollTake, State.kick, State.link, look_update]
  split
  · exact LinkCtl.takeHead_standing _ _
  · rfl

/-! ### The poll cache under a new poll table (R42, R117) -/

/-- The poll cache with other entries. -/
def State.withEntries (s : State) (es : Vector PollEntry 32) : State := { s with poll := { s.poll with entries := es } }

@[simp] theorem State.withEntries_link (s : State) (es : Vector PollEntry 32) (l : LinkId) :
    (s.withEntries es).link l = s.link l := rfl
@[simp] theorem State.withEntries_sender (s : State) (es : Vector PollEntry 32) (l : LinkId) :
    (s.withEntries es).sender l = s.sender l := rfl

/-- Every entry under its new settings. -/
def State.replanned (s : State) (old new : Plan) : Vector PollEntry 32 :=
  updateAll s.poll.entries fun p e => e.replan (look old.poll p) (look new.poll p) s.now

/-- A new poll table drops ASKs, changes entries, and lets both poll senders take their next. -/
theorem State.replanPoll_eq (s : State) (old new : Plan) : s.replanPoll old new =
    (((s.dropAsks old new).withEntries (s.replanned old new)).pollTake 0).pollTake 1 := by
  rw [State.replanned, ← s.dropAsks_entries old new]
  rfl

theorem State.pollTake_entries (s : State) (l : LinkId) : (s.pollTake l).poll.entries = s.poll.entries := rfl

theorem State.replanPoll_entries (s : State) (old new : Plan) :
    (s.replanPoll old new).poll.entries = s.replanned old new := by
  rw [State.replanPoll_eq, State.pollTake_entries, State.pollTake_entries]
  rfl

theorem State.replanPoll_standing (s : State) (old new : Plan) (l : LinkId) :
    ((s.replanPoll old new).link l).standing = (s.link l).standing := by
  rw [State.replanPoll_eq, State.pollTake_standing, State.pollTake_standing, State.withEntries_link,
    State.link, s.dropAsks_links]
  rfl

theorem State.replanPoll_keepsUnnamed (s : State) (old new : Plan) (l : LinkId) (i : SlotId) :
    KeepsUnnamed i (s.sender l) ((s.replanPoll old new).sender l) := by
  rw [State.replanPoll_eq]
  refine KeepsUnnamed.trans ?_ (State.pollTake_keepsUnnamed _ 1 l i)
  refine KeepsUnnamed.trans ?_ (State.pollTake_keepsUnnamed _ 0 l i)
  rw [State.withEntries_sender]
  exact s.dropAsks_keepsUnnamed old new l i

theorem State.replanPoll_commSide (s : State) (old new : Plan) : CommSide s (s.replanPoll old new) := by
  have hdrop : CommSide s (s.dropAsks old new) :=
    s.dropAsks_induction old new (.refl s) fun t l p h => h.trans (t.dropAsk_linkSide l p).toCommSide
  have hentries : ∀ (t : State) es, CommSide t (t.withEntries es) := fun _ _ => .of_rfl rfl rfl rfl
  rw [State.replanPoll_eq]
  exact ((hdrop.trans (hentries _ _)).trans (State.pollTake_linkSide _ 0).toCommSide).trans
    (State.pollTake_linkSide _ 1).toCommSide

/-- An entry that becomes valid, is no longer valid, or changes its link or Tag (R42). -/
theorem pollResets_iff (old new : Option PollSettings) : pollResets old new = true ↔
    old.isSome ≠ new.isSome ∨ ∃ a b, old = some a ∧ new = some b ∧ (a.link ≠ b.link ∨ a.tag ≠ b.tag) := by
  cases old <;> cases new <;> simp [pollResets]

theorem PollEntry.replan_resets (e : PollEntry) {old new : Option PollSettings} (now : Stamp)
    (h : pollResets old new = true) : e.replan old new now = PollEntry.restart new now := if_pos h

/-- Settings that stay leave their entry as it was (R42, R117). -/
theorem PollEntry.replan_same (e : PollEntry) (k : Option PollSettings) (now : Stamp) : e.replan k k now = e := by
  cases k with
  | none => rfl
  | some a => cases hmode : a.mode <;> simp [PollEntry.replan, pollResets, PollEntry.adjust, hmode]

/-! ### The guards judged afresh (R150 to R152) -/

/-- Two states in which every condition of an interlock reads alike (Table 8-4). -/
structure SameConditions (s t : State) : Prop where
  plan : t.plan = s.plan
  entries : t.poll.entries = s.poll.entries
  still : ∀ c, (t.chan c).state.still = (s.chan c).state.still
  ends : ∀ c d, (t.chan c).endActive d = (s.chan c).endActive d

namespace SameConditions

theorem condMet {s t : State} (h : SameConditions s t) : t.condMet = s.condMet := by
  funext k
  cases k with
  | atEnd c d => exact h.ends c d
  | still c => exact h.still c
  | value p byte mask expected =>
    exact congrArg (fun es => (look es p).meets byte mask expected) h.entries

theorem guardResults {s t : State} (h : SameConditions s t) : t.guardResults = s.guardResults := by
  rw [State.guardResults, State.guardResults, h.plan, h.condMet]

theorem unguarded {s t : State} (h : SameConditions s t) {c : ChanId}
    (hdriven : (t.chan c).state.driven = (s.chan c).state.driven) : t.unguarded c = s.unguarded c := by
  simp only [State.unguarded, State.guardsMet, State.guardsOf, h.plan, h.condMet, hdriven]

end SameConditions

/-- A channel with an unmet guard is moving. -/
theorem State.driven_of_unguarded {s : State} {c : ChanId} (h : s.unguarded c = true) :
    ∃ d, (s.chan c).state.driven = some d := by
  unfold State.unguarded at h
  split at h
  · cases h
  next d hd => exact ⟨d, hd⟩

theorem ChanState.still_of_driven {st : ChanState} {d : Dir} (h : st.driven = some d) : st.still = false := by
  cases st with
  | driveOut | driveIn => rfl
  | safe | ready | stopping | tripped => cases h

theorem State.reevaluate_chan (s : State) (c : ChanId) : s.reevaluate.chan c =
    if s.unguarded c then (s.chan c).stop .interlock (later s.now (s.stopDwell c)) else s.chan c :=
  look_updateAll _ _ _

theorem State.reevaluate_prot (s : State) (c : ChanId) :
    s.reevaluate.prot c = if s.unguarded c then (s.prot c).endMotion else s.prot c := look_updateAll _ _ _

/-- A channel that stops is as little STILL as it was while it moved, so no guard reads otherwise afterwards (R152). -/
theorem State.reevaluate_sameConditions (s : State) : SameConditions s s.reevaluate where
  plan := rfl
  entries := rfl
  still c := by
    rw [s.reevaluate_chan]
    split
    next h =>
      obtain ⟨d, hd⟩ := State.driven_of_unguarded h
      exact (ChanState.still_of_driven hd).symm
    · rfl
  ends c d := by
    rw [s.reevaluate_chan]
    split
    · cases d <;> rfl
    · rfl

/-- The results held after a judgement are those of the conditions as they then stand (R150). -/
theorem State.reevaluate_guards (s : State) : s.reevaluate.guards = s.reevaluate.guardResults :=
  s.reevaluate_sameConditions.guardResults.symm

/-- A channel stopped by a guard raises STOPPED (R152). -/
theorem State.reevaluate_caused {s : State} {c : ChanId} (h : s.unguarded c = true) :
    s.reevaluate.caused .stopped = true := by
  have hany : (List.finRange 3).any s.unguarded = true := List.any_eq_true.mpr ⟨c, List.mem_finRange c, h⟩
  rw [State.reevaluate, State.raiseIf_eq, if_pos hany]
  exact State.raise_caused _ _

/-- Raising a cause clears none (R166). -/
theorem State.raise_caused_of_caused {s : State} {c : Cause} (d : Cause) (h : s.caused c = true) :
    (s.raise d).caused c = true := by
  have hset : (s.raise d).status.causes = s.status.causes ||| d.bit := rfl
  simp only [State.caused, State.hasCause, bne_iff_ne, ne_eq, hset] at h ⊢
  refine fun hzero => h ?_
  ext i hi
  have hbit : ((s.status.causes ||| d.bit) &&& c.bit)[i] = (0 : BitVec 12)[i] := by rw [hzero]
  cases hcause : s.status.causes[i] with
  | false => simp [hcause]
  | true => simpa [hcause] using hbit

/-! ### The channels under a new plan (R43) -/

/-- READY channels without settings at rest in SAFE, before the guards are judged. -/
def State.restedChannels (s : State) : State :=
  { s with
    chans := updateAll s.chans fun c ch => if s.withoutSettings c then ch.rest .safe else ch
    prots := updateAll s.prots fun c k => if s.withoutSettings c then k.rest else k }

theorem State.replanChannels_eq (s : State) : s.replanChannels = s.restedChannels.reevaluate := rfl

theorem State.restedChannels_chan (s : State) (c : ChanId) :
    s.restedChannels.chan c = if s.withoutSettings c then (s.chan c).rest .safe else s.chan c := look_updateAll _ _ _

theorem State.restedChannels_prot (s : State) (c : ChanId) :
    s.restedChannels.prot c = if s.withoutSettings c then (s.prot c).rest else s.prot c := look_updateAll _ _ _

theorem State.withoutSettings_iff (s : State) (c : ChanId) :
    s.withoutSettings c = true ↔ (s.chan c).state = .ready ∧ s.driveSettings c = none := by
  simp [State.withoutSettings]

/-- READY and SAFE are neither moving nor other than STILL. -/
theorem State.restedChannels_driven (s : State) (c : ChanId) :
    (s.restedChannels.chan c).state.driven = (s.chan c).state.driven := by
  rw [s.restedChannels_chan]
  split
  next h => rw [((s.withoutSettings_iff c).mp h).1]; rfl
  · rfl

theorem State.restedChannels_sameConditions (s : State) : SameConditions s s.restedChannels where
  plan := rfl
  entries := rfl
  still c := by
    rw [s.restedChannels_chan]
    split
    next h => rw [((s.withoutSettings_iff c).mp h).1]; rfl
    · rfl
  ends c d := by
    rw [s.restedChannels_chan]
    split
    · cases d <;> rfl
    · rfl

theorem State.restedChannels_unguarded (s : State) (c : ChanId) : s.restedChannels.unguarded c = s.unguarded c :=
  s.restedChannels_sameConditions.unguarded (s.restedChannels_driven c)

theorem State.replanChannels_senders (s : State) : s.replanChannels.senders = s.senders := rfl
theorem State.replanChannels_esl (s : State) : s.replanChannels.esl = s.esl := rfl

section
variable {s : State} {c : ChanId}

theorem State.replanChannels_safe (h : s.withoutSettings c = true) :
    s.replanChannels.chan c = (s.chan c).rest .safe := by
  have hidle : s.restedChannels.unguarded c = false := by
    rw [s.restedChannels_unguarded, State.unguarded, ((s.withoutSettings_iff c).mp h).1]
    rfl
  rw [s.replanChannels_eq, State.reevaluate_chan, hidle, s.restedChannels_chan, if_pos h]
  rfl

theorem State.replanChannels_stops (h : s.unguarded c = true) :
    s.replanChannels.chan c = (s.chan c).stop .interlock (later s.now (s.stopDwell c))
      ∧ s.replanChannels.caused .stopped = true := by
  have hjudged : s.restedChannels.unguarded c = true := (s.restedChannels_unguarded c).trans h
  have hset : ¬ s.withoutSettings c = true := by
    intro hw
    obtain ⟨d, hd⟩ := State.driven_of_unguarded h
    rw [((s.withoutSettings_iff c).mp hw).1] at hd
    cases hd
  refine ⟨?_, State.reevaluate_caused hjudged⟩
  rw [s.replanChannels_eq, State.reevaluate_chan, if_pos hjudged, s.restedChannels_chan, if_neg hset]
  rfl

theorem State.replanChannels_keeps (h : s.unguarded c = false) (hset : ¬ s.withoutSettings c = true) :
    s.replanChannels.chan c = s.chan c ∧ s.replanChannels.prot c = s.prot c := by
  have hjudged : ¬ s.restedChannels.unguarded c = true := by simp [s.restedChannels_unguarded, h]
  rw [s.replanChannels_eq, State.reevaluate_chan, State.reevaluate_prot, if_neg hjudged, if_neg hjudged,
    s.restedChannels_chan, s.restedChannels_prot, if_neg hset, if_neg hset]
  exact ⟨rfl, rfl⟩

end

/-! ### The blocks in their order (log 28) -/

/-- Every block but the Repeater, the memory path and the Status Unit is as it was. -/
structure SameBlocks (s t : State) : Prop where
  loader : t.loader = s.loader
  links : t.links = s.links
  senders : t.senders = s.senders
  ringWriter : t.ringWriter = s.ringWriter
  poll : t.poll = s.poll
  chans : t.chans = s.chans
  prots : t.prots = s.prots
  guards : t.guards = s.guards
  esl : t.esl = s.esl

/-- The plan itself, the rings, the slots and the links. -/
def State.planLinked (s : State) (q : Plan) : State := (s.switchPlan q).replanLinks s.plan q (s.ringMoves q)

/-- Then the poll cache. -/
def State.planPolled (s : State) (q : Plan) : State := (s.planLinked q).replanPoll s.plan q

theorem State.forcePlan_eq (s : State) (q : Plan) :
    s.forcePlan q = ((s.planPolled q).replanChannels.restartRepeater).raise .plan := rfl

/-- After the channels only the Repeater, the memory path and cause PLAN follow. -/
theorem State.forcePlan_after (s : State) (q : Plan) : ∃ r p,
    s.forcePlan q = State.raise { (s.planPolled q).replanChannels with repeater := r, path := p } .plan := by
  obtain ⟨r, p, h⟩ := (s.planPolled q).replanChannels.restartRepeater_repeaterSide
  exact ⟨r, p, by rw [s.forcePlan_eq, h]⟩

section
variable (s : State) (q : Plan)

theorem State.planPolled_commSide : CommSide (s.planLinked q) (s.planPolled q) := State.replanPoll_commSide _ _ _

theorem State.planPolled_plan : (s.planPolled q).plan = q := congrArg PlanLoader.plan (s.planPolled_commSide q).loader
theorem State.planPolled_now : (s.planPolled q).now = s.status.stamp := (s.planPolled_commSide q).stamp
theorem State.planPolled_chans : (s.planPolled q).chans = s.chans := (s.planPolled_commSide q).chans
theorem State.planPolled_prots : (s.planPolled q).prots = s.prots := (s.planPolled_commSide q).prots
theorem State.planPolled_esl : (s.planPolled q).esl = s.esl := (s.planPolled_commSide q).esl
theorem State.planPolled_repeater : (s.planPolled q).repeater = s.repeater := (s.planPolled_commSide q).repeater

theorem State.planPolled_chan (c : ChanId) : (s.planPolled q).chan c = s.chan c :=
  congrArg (look · c) (s.planPolled_chans q)

theorem State.planPolled_prot (c : ChanId) : (s.planPolled q).prot c = s.prot c :=
  congrArg (look · c) (s.planPolled_prots q)

theorem State.planPolled_withoutSettings_iff (c : ChanId) :
    (s.planPolled q).withoutSettings c = true ↔ (s.chan c).state = .ready ∧ look q.drives c = none := by
  rw [State.withoutSettings_iff, s.planPolled_chan, State.driveSettings, s.planPolled_plan]

theorem State.forcePlan_sameBlocks : SameBlocks (s.planPolled q).replanChannels (s.forcePlan q) := by
  obtain ⟨r, p, h⟩ := s.forcePlan_after q
  rw [h]
  exact ⟨rfl, rfl, rfl, rfl, rfl, rfl, rfl, rfl, rfl⟩

/-- The Plan Loader with a plan in force (R31); what follows from it leaves the Plan Loader alone. -/
theorem State.forcePlan_loader : (s.forcePlan q).loader = s.loader.force q :=
  (s.forcePlan_sameBlocks q).loader.trans
    ((State.replanChannels_driveSide _).loader.trans (s.planPolled_commSide q).loader)

theorem State.forcePlan_plan : (s.forcePlan q).plan = q := congrArg PlanLoader.plan (s.forcePlan_loader q)

theorem State.forcePlan_esl : (s.forcePlan q).esl = s.esl :=
  (s.forcePlan_sameBlocks q).esl.trans ((State.replanChannels_esl _).trans (s.planPolled_esl q))

theorem State.forcePlan_senders : (s.forcePlan q).senders = (s.planPolled q).senders :=
  (s.forcePlan_sameBlocks q).senders.trans (State.replanChannels_senders _)

theorem State.forcePlan_links : (s.forcePlan q).links = (s.planPolled q).links :=
  (s.forcePlan_sameBlocks q).links.trans (State.replanChannels_driveSide _).links

theorem State.forcePlan_poll : (s.forcePlan q).poll = (s.planPolled q).poll :=
  (s.forcePlan_sameBlocks q).poll.trans (State.replanChannels_driveSide _).poll

theorem State.forcePlan_ringWriter : (s.forcePlan q).ringWriter = (s.planLinked q).ringWriter :=
  (s.forcePlan_sameBlocks q).ringWriter.trans
    ((State.replanChannels_driveSide _).ringWriter.trans (s.planPolled_commSide q).ringWriter)

theorem State.forcePlan_repeater : (s.forcePlan q).repeater = (s.planPolled q).replanChannels.restartRepeater.repeater :=
  rfl

/-- A plan coming into force ends with cause PLAN (R40). -/
theorem State.forcePlan_caused : (s.forcePlan q).caused .plan = true := State.raise_caused _ _

/-- It clears no cause that the channels have raised. -/
theorem State.forcePlan_caused_of_caused {c : Cause} (h : (s.planPolled q).replanChannels.caused c = true) :
    (s.forcePlan q).caused c = true := by
  obtain ⟨r, p, hafter⟩ := s.forcePlan_after q
  rw [hafter]
  exact State.raise_caused_of_caused _ h

/-! ### Rings, poll entries, slots and links (R41, R42, R103) -/

theorem State.forcePlan_ring (r : RingId) : (s.forcePlan q).ring r =
    if s.ringMoves q r then (s.ring r).resize (effectiveLength q r) else s.ring r := by
  rw [State.ring, s.forcePlan_ringWriter]
  exact look_updateAll _ _ _

theorem State.forcePlan_pollEntry (p : PollId) : (s.forcePlan q).pollEntry p =
    (s.pollEntry p).replan (s.pollSettings p) (look q.poll p) s.status.stamp := by
  rw [State.pollEntry, s.forcePlan_poll, State.planPolled, State.replanPoll_entries]
  exact look_updateAll _ _ _

theorem State.planLinked_sender (l : LinkId) : (s.planLinked q).sender l =
    if s.plan.windowBase (.post l) = q.windowBase (.post l) then s.sender l
    else { s.sender l with slots := (s.sender l).slots.map Slot.disarm } := look_updateAll _ _ _

/-- A slot that its send queue does not name is disarmed if its POST window moves, and is as it was if not. -/
theorem State.forcePlan_slot {l : LinkId} {i : SlotId} (h : (s.sender l).unnamed i) : (s.forcePlan q).slot l i =
    if s.plan.windowBase (.post l) = q.windowBase (.post l) then s.slot l i else (s.slot l i).disarm := by
  have hlinked := s.planLinked_sender q l
  have hunnamed : ((s.planLinked q).sender l).unnamed i := by
    rw [hlinked]
    split <;> exact h
  obtain ⟨-, hslot⟩ := (s.planLinked q).replanPoll_keepsUnnamed s.plan q l i hunnamed
  rw [State.slot, State.sender, s.forcePlan_senders]
  refine hslot.trans ?_
  rw [hlinked]
  split
  · rfl
  · exact look_map _ _ _

theorem State.forcePlan_standing (l : LinkId) : ((s.forcePlan q).link l).standing = (s.link l).standing := by
  rw [State.link, s.forcePlan_links]
  refine ((s.planLinked q).replanPoll_standing s.plan q l).trans ?_
  have hlink : (s.planLinked q).link l =
      (s.link l).newRecovery (look s.plan.links l).recovery (look q.links l).recovery := look_updateAll _ _ _
  rw [hlink, LinkCtl.newRecovery_standing]

end

/-- Settles O15: each block's record as `forcePlan_ring`, `forcePlan_pollEntry`, `forcePlan_slot` and `forcePlan_standing`
give it. -/
theorem planIntoForceResets : Obligations.PlanIntoForceResets := by
  intro s q t
  refine ⟨s.forcePlan_plan q, s.forcePlan_caused q, fun r hmoves => ?_, fun r hstays => ?_,
    fun p => ⟨fun h => ?_, fun h => ?_⟩, fun l i harmed hunnamed => ⟨fun hmoves => ?_, fun hstays => ?_⟩, fun l => ?_⟩
  · rw [s.forcePlan_ring, if_pos hmoves]
    rfl
  · rw [s.forcePlan_ring, hstays, if_neg Bool.false_ne_true]
  · rw [s.forcePlan_pollEntry, PollEntry.replan_resets _ _ ((pollResets_iff _ _).mpr h)]
    rfl
  · rw [s.forcePlan_pollEntry, h, PollEntry.replan_same]
  · rw [s.forcePlan_slot q hunnamed, if_neg hmoves, Slot.disarm, if_pos harmed]
    exact ⟨rfl, rfl⟩
  · rw [s.forcePlan_slot q hunnamed, if_pos hstays]
  · have hstanding := s.forcePlan_standing q l
    simpa [LinkCtl.standing] using hstanding

/-! ### Guards, channels and the Repeater (R43, R44, R152, R176) -/

section
variable (s : State) (q : Plan)

/-- The guard results held are those of the conditions as they stand after the plan has come into force. -/
theorem State.forcePlan_guardResults : (s.forcePlan q).guards = (s.forcePlan q).guardResults := by
  have hjudged : (s.planPolled q).replanChannels.guards = (s.planPolled q).replanChannels.guardResults :=
    State.reevaluate_guards _
  obtain ⟨r, p, h⟩ := s.forcePlan_after q
  rw [h]
  exact hjudged

/-- The channels as they were, under the new plan and the poll cache as it leaves it, have the guards that are judged. -/
theorem State.unguarded_polled (c : ChanId) :
    ({ s with loader := (s.forcePlan q).loader, poll := (s.forcePlan q).poll } : State).unguarded c
      = (s.planPolled q).unguarded c := by
  have hchan := s.planPolled_chan q
  refine SameConditions.unguarded (s := s.planPolled q) ⟨?_, ?_, fun d => ?_, fun d w => ?_⟩ ?_
  · exact (s.forcePlan_plan q).trans (s.planPolled_plan q).symm
  · exact congrArg PollUnit.entries (s.forcePlan_poll q)
  · rw [hchan]; rfl
  · rw [hchan]; rfl
  · rw [hchan]; rfl

theorem State.stopDwell_polled (c : ChanId) :
    (s.planPolled q).stopDwell c
      = ({ s with loader := (s.forcePlan q).loader, poll := (s.forcePlan q).poll } : State).stopDwell c := by
  have hplan : (s.planPolled q).plan = (s.forcePlan q).plan := (s.planPolled_plan q).trans (s.forcePlan_plan q).symm
  rw [State.stopDwell, State.driveSettings, hplan]
  rfl

/-- The Repeater restarts as it was before the plan, under the new plan's settings. -/
theorem State.forcePlan_restarts :
    (s.planPolled q).replanChannels.repeater = s.repeater ∧ (s.planPolled q).replanChannels.plan = q
      ∧ (s.planPolled q).replanChannels.now = s.status.stamp := by
  have hside := (s.planPolled q).replanChannels_driveSide
  exact ⟨hside.repeater.trans (s.planPolled_repeater q),
    (congrArg PlanLoader.plan hside.loader).trans (s.planPolled_plan q), hside.stamp.trans (s.planPolled_now q)⟩

end

/-- What becomes of a drive channel (R43, R152): the three clauses of `replanChannels`, in the terms of the claim. -/
theorem State.forcePlan_chan (s : State) (q : Plan) (c : ChanId) :
    let t := s.forcePlan q
    let u : State := { s with loader := t.loader, poll := t.poll }
    ((s.chan c).state = .ready → look q.drives c = none → t.chan c = (s.chan c).rest .safe)
      ∧ (u.unguarded c = true →
          t.chan c = (s.chan c).stop .interlock (later s.status.stamp (u.stopDwell c)) ∧ t.caused .stopped = true)
      ∧ (u.unguarded c = false → ((s.chan c).state ≠ .ready ∨ look q.drives c ≠ none) →
          t.chan c = s.chan c ∧ t.prot c = s.prot c) := by
  intro t u
  have hchan : t.chan c = (s.planPolled q).replanChannels.chan c := congrArg (look · c) (s.forcePlan_sameBlocks q).chans
  have hprot : t.prot c = (s.planPolled q).replanChannels.prot c := congrArg (look · c) (s.forcePlan_sameBlocks q).prots
  have hunguarded : u.unguarded c = (s.planPolled q).unguarded c := s.unguarded_polled q c
  have hset := s.planPolled_withoutSettings_iff q c
  refine ⟨fun hready hnone => ?_, fun h => ?_, fun h hkeeps => ?_⟩
  · rw [hchan, State.replanChannels_safe (hset.mpr ⟨hready, hnone⟩), s.planPolled_chan]
  · obtain ⟨hstop, hcaused⟩ := State.replanChannels_stops (hunguarded.symm.trans h)
    refine ⟨?_, s.forcePlan_caused_of_caused q hcaused⟩
    rw [hchan, hstop, s.planPolled_chan, s.planPolled_now, s.stopDwell_polled]
  · have hnot : ¬ (s.planPolled q).withoutSettings c = true := by
      rw [hset]
      rintro ⟨hready, hnone⟩
      exact hkeeps.elim (· hready) (· hnone)
    obtain ⟨hc, hp⟩ := State.replanChannels_keeps (hunguarded.symm.trans h) hnot
    exact ⟨hchan.trans (hc.trans (s.planPolled_chan q c)), hprot.trans (hp.trans (s.planPolled_prot q c))⟩

/-- Settles O16: the channels by `forcePlan_chan`, the Repeater by its two restarts. -/
theorem planIntoForceJudgesChannels : Obligations.PlanIntoForceJudgesChannels := by
  intro s q t u
  obtain ⟨hrepeater, hplan, hnow⟩ := s.forcePlan_restarts q
  have hrestart : t.repeater = _ := s.forcePlan_repeater q
  refine ⟨s.forcePlan_guardResults q, fun c => ?_, s.forcePlan_esl q, ?_⟩
  · obtain ⟨hsafe, hstop, hkeep⟩ := s.forcePlan_chan q c
    refine ⟨fun hready hnone => ?_, fun h => ?_, hkeep⟩
    · rw [hsafe hready hnone]
      exact ⟨rfl, rfl⟩
    · obtain ⟨hchan, hcaused⟩ := hstop h
      rw [hchan]
      exact ⟨rfl, rfl, rfl, rfl, rfl, hcaused⟩
  · by_cases hperiod : q.repeater.period = 0
    · rw [hrestart, State.restartRepeater_off (by rw [hplan]; exact hperiod), hrepeater, Repeater.leftFinishing_eq]
      exact ⟨rfl, rfl, fun _ => ⟨rfl, rfl, rfl⟩, fun h => absurd hperiod h⟩
    · obtain ⟨f, n, g, hcycles⟩ := State.restartRepeater_cycles (s := (s.planPolled q).replanChannels)
        (by rw [hplan]; exact hperiod)
      rw [hrestart, hcycles, hrepeater, hplan, hnow, Repeater.leftFinishing_eq]
      refine ⟨rfl, rfl, fun h => absurd h hperiod, fun _ => ⟨rfl, rfl, ?_⟩⟩
      by_cases hsources : q.repeater.sources = [] <;> simp [hsources]

end Sys2Proof.Machine
end

section
/-! The Plan Loader: the trigger that begins a load (O11), the checks of a page (O14), its reads and its end (O13). -/

namespace Sys2Proof.Machine

/-! ### The sequence trigger (R24, R27) -/

/-- The plan page does not wrap, whatever the straps. -/
theorem planBase_add_four :
    ∀ planSel : BitVec 4, (planBase planSel + 4).toNat = (planBase planSel).toNat + 4 := by decide

/-- The word at offset 4 of the plan page is the sequence word, under any plan (R24). -/
theorem classify_planSequence (planSel : BitVec 4) (p : Plan) :
    classify planSel p (planBase planSel + 4) = .planSequence := by
  rw [classify, planBase_add_four]
  generalize (planBase planSel).toNat = base
  have hin : base ≤ base + 4 ∧ base + 4 < base + 4096 := by omega
  rw [if_pos hin, Nat.add_sub_cancel_left]
  rfl
/-- A sequence trigger, taken: the load begins, and its write passes with the notice. -/
theorem exec_planSequenceTrigger (id : TransferId) (v : Word) (s : State) (h : s.takesNow = true) :
    exec (.planSequenceTrigger id v) s = .next ((s.modLoader fun p => p.trigger v).withEntry
      (triggerEntry id (planBase s.planSel + 4) v [.plan s.loader.loadSerial])) := by
  obtain ⟨-, -, -, hstaged, -⟩ := s.takesNow_iff.mp h
  have hsees : s.sees (planBase s.planSel + 4) .planSequence = true := beq_iff_eq.mpr (classify_planSequence _ _)
  have htaken := s.trigger_taken id _ v .planSequence h hsees rfl rfl (Path.grows_refl _)
  exact congrArg Host.Outcome.next (htaken.trans (State.commit_of_empty _ hstaged))

/-- Settles O11. -/
theorem sequenceTriggerBeginsLoad : Obligations.SequenceTriggerBeginsLoad := exec_planSequenceTrigger

/-! ### The reasons of the checks (R31 to R38) -/

/-- A check refuses for this reason alone. -/
def RefusesFor (r : PlanReason) (o : Option PlanFault) : Prop := ∀ f, o = some f → f.reason = r

theorem refusesFor_firstFailing (r : PlanReason) (sec : PlanSection) (n : Nat) (fails : Fin n → Bool) :
    RefusesFor r (firstFailing r sec n fails) := by
  intro f hf
  obtain ⟨i, -, rfl⟩ := Option.map_eq_some_iff.mp hf
  rfl

/-- The fault of several checks is that of one of them. -/
theorem mem_of_firstFault {fs : List (Option PlanFault)} {f : PlanFault} (h : firstFault fs = some f) : some f ∈ fs := by
  obtain ⟨o, ho, hf⟩ := List.exists_of_findSome?_eq_some h
  exact (show o = some f from hf) ▸ ho

theorem refusesFor_firstFault {r : PlanReason} {fs : List (Option PlanFault)} (h : ∀ o ∈ fs, RefusesFor r o) :
    RefusesFor r (firstFault fs) := fun f hf => h _ (mem_of_firstFault hf) f rfl

theorem refusesFor_checkPageRange (p : Page) (v : Word) : RefusesFor .range (checkPageRange p v) :=
  refusesFor_firstFault (by simp [refusesFor_firstFailing])

theorem refusesFor_checkOverlap (planSel : BitVec 4) (q : Plan) : RefusesFor .overlap (checkOverlap planSel q) :=
  refusesFor_firstFailing _ _ _ _

theorem refusesFor_checkDuplicate (q : Plan) : RefusesFor .duplicate (checkDuplicate q) :=
  refusesFor_firstFault (by simp [refusesFor_firstFailing])

theorem State.refusesFor_checkLocked (s : State) (q : Plan) : RefusesFor .locked (s.checkLocked q) :=
  refusesFor_firstFault (by simp [refusesFor_firstFailing])

theorem State.refusesFor_checkBusy (s : State) (q : Plan) : RefusesFor .busy (s.checkBusy q) :=
  refusesFor_firstFault (by simp [refusesFor_firstFailing])

/-- A page fails SIGNATURE where it has not the signature, before any other check (R31, R32). -/
theorem State.checkPlan_unsigned (s : State) {p : Page} (v : Word) (h : pageNat p 0 4 ≠ 0x50365A54) :
    s.checkPlan p v = some ⟨.signature, .header, 0⟩ := by
  have hsig : checkSignature p = some ⟨.signature, .header, 0⟩ := if_neg h
  simp only [State.checkPlan, hsig]
  rfl

/-- With the signature, a refusal has the reason of a later check. -/
theorem State.checkPlan_signed (s : State) {p : Page} (v : Word) (h : pageNat p 0 4 = 0x50365A54) {f : PlanFault}
    (hf : s.checkPlan p v = some f) : f.reason ∈ [.range, .overlap, .duplicate, .locked, PlanReason.busy] := by
  have hsig : checkSignature p = none := if_pos h
  have hmem := mem_of_firstFault hf
  simp only [hsig, List.mem_cons, reduceCtorEq, List.not_mem_nil, or_false, false_or] at hmem
  obtain hr | hr | hr | hr | hr := hmem
  · simp [refusesFor_checkPageRange p v f hr.symm]
  · simp [refusesFor_checkOverlap _ _ f hr.symm]
  · simp [refusesFor_checkDuplicate _ f hr.symm]
  · simp [s.refusesFor_checkLocked _ f hr.symm]
  · simp [s.refusesFor_checkBusy _ f hr.symm]

/-- Settles O14. -/
theorem signatureCheckedFirst : Obligations.SignatureCheckedFirst := by
  refine fun s p v => ⟨s.checkPlan_unsigned v, fun h f hf hreason => ?_⟩
  have hlater := s.checkPlan_signed v h hf
  rw [hreason] at hlater
  exact absurd hlater (by decide)

/-! ### The reads of a page (R29, R30) -/

section
variable {s : State} {l : Load}

theorem State.loadOf_load (h : s.loader.load = some l) : s.loadOf l.serial = some l := by
  simp [State.loadOf, h]

/-- A read of the load in flight answered MEMERR ends the load (R30). -/
theorem State.planRead_memerr (h : s.loader.load = some l) (i : Nat) (data : List Word) :
    s.planRead l.serial i .other data = s.refusePlan ⟨.readFailed, .page, i⟩ := by
  simp only [State.planRead, State.loadOf_load h]

/-- A read answered OKAY with reads left: its words are stored, and the next read is submitted (R29). -/
theorem State.planRead_more (h : s.loader.load = some l) {i : Nat} (hi : i < 64) (data : List Word)
    (hmore : l.nextRead < 64) : s.planRead l.serial i .okay data =
      (s.modLoader fun p =>
        { p with load := some { l with page := l.page.set i data, nextRead := l.nextRead + 1 } }).submitPlanRead
        l.serial l.nextRead := by
  simp [State.planRead, State.loadOf_load h, State.planReadStored, Load.store, hi, hmore]

/-- A submitted plan read joins at the end of its event (R18). -/
theorem State.commit_submitPlanRead (serial i : Nat) (h : s.path.staged = []) : (s.submitPlanRead serial i).commit =
    s.modPath fun p => p.join ⟨.planRead serial i, false, planBase s.planSel + BitVec.ofNat 40 (64 * i), 16, []⟩ :=
  s.commit_submit _ h (Purpose.rank_lt _)

/-- The last read of a page answered OKAY: its words are stored, and the page is judged (R29, R31). -/
theorem State.planRead_last (h : s.loader.load = some l) {i : Nat} (hi : i < 64) (data : List Word)
    (hnext : l.nextRead = 64) (hlast : l.outstanding = 1) : s.planRead l.serial i .okay data =
      let l' : Load := { l with page := l.page.set i data, outstanding := 0 }
      (s.modLoader fun p => { p with load := some l' }).endLoad l' := by
  simp [State.planRead, State.loadOf_load h, State.planReadStored, Load.store, hi, hnext, hlast]

end

/-- The response that answers a plan page read, at the end of its event (R19, R29). -/
theorem exec_planReadComplete {s : State} {nth i serial : Nat} {r : Request} {code : DownCode} {data : List Word}
    (hrun : s.running = true) (hr : s.path.inFlight[nth]? = some r) (hpurpose : r.purpose = .planRead serial i)
    (hbeats : r.beats = data.length) :
    exec (.planReadComplete nth code data) s = .next ((s.complete nth code).planRead serial i code data).commit := by
  have hanswered : s.answeredPurpose nth code data.length = some (.planRead serial i) := by
    simp [State.answeredPurpose, Path.answered, hr, hpurpose, hbeats]
  show Host.Outcome.next (s.event fun t => t.planReadCompletes nth code data) = _
  rw [State.event_of_running s _ (State.running_inReset hrun), State.planReadCompletes, hanswered]

/-- The internal transfer `nth` is no longer in flight. -/
def State.landed (s : State) (nth : Nat) : State := s.modPath fun p => { p with inFlight := p.inFlight.eraseIdx nth }

theorem State.complete_okay (s : State) (nth : Nat) : s.complete nth .okay = s.landed nth := rfl

/-! ### The end of a load (R31) -/

/-- The checks read neither the load nor the memory path. -/
theorem State.checkPlan_landed (s : State) (nth : Nat) (p : Page) (v : Word) :
    (s.landed nth).checkPlan p v = s.checkPlan p v := rfl

/-- A page that fails a check ends its load refused. -/
theorem State.endLoad_refused {s : State} {l : Load} {f : PlanFault} (h : s.checkPlan l.page l.value = some f) :
    (s.modLoader fun p => { p with load := some l }).endLoad l = s.refusePlan f := by
  have hcheck : (s.modLoader fun p => { p with load := some l }).checkPlan l.page l.value = some f := h
  rw [State.endLoad, hcheck]
  rfl

/-- A page that passes every check comes into force, with nothing of its load left. -/
theorem State.endLoad_passed {s : State} {l : Load} (h : s.checkPlan l.page l.value = none) :
    (s.modLoader fun p => { p with load := some l }).endLoad l = s.forcePlan (pagePlan l.page) := by
  have hcheck : (s.modLoader fun p => { p with load := some l }).checkPlan l.page l.value = none := h
  rw [State.endLoad, hcheck]
  rfl

@[simp] theorem State.commit_caused (s : State) (c : Cause) : s.commit.caused c = s.caused c := rfl
@[simp] theorem State.commit_loader (s : State) : s.commit.loader = s.loader := rfl

/-- An event that only submits leaves what is in flight. -/
theorem Within.commit_inFlight {s t : State} (h : Within s t) : t.commit.path.inFlight = s.path.inFlight := by
  obtain ⟨rs, hgrows⟩ := h.path
  obtain ⟨q, w, hcommit⟩ := t.commit_path
  rw [hcommit, hgrows]

/-- Settles O13: with reads left by `planRead_more` and `planRead_memerr`, at the last one by `planRead_last` and what the
checks find. -/
theorem planReadStoresOrEndsLoad : Obligations.PlanReadStoresOrEndsLoad := by
  refine ⟨fun s nth i r l data hrun hr hpurpose _ hbeats hload => ?_,
    fun s nth i r l data hrun hr hpurpose _ hbeats hload hnext hlast hi => ?_⟩
  · have hstaged := State.running_staged hrun
    refine ⟨fun hi hmore => ?_, ?_⟩
    · rw [exec_planReadComplete hrun hr hpurpose hbeats, s.complete_okay,
        State.planRead_more (s := s.landed nth) hload hi data hmore]
      exact congrArg Host.Outcome.next (State.commit_submitPlanRead _ _ (by exact hstaged))
    · rw [exec_planReadComplete hrun hr hpurpose hbeats, State.planRead_memerr (s := s.complete nth .other) hload]
      exact congrArg Host.Outcome.next (State.commit_of_empty _ (by exact hstaged))
  · intro page
    rw [exec_planReadComplete hrun hr hpurpose hbeats, s.complete_okay,
      State.planRead_last (s := s.landed nth) hload hi data hnext hlast]
    let l' : Load := { l with page := page, outstanding := 0 }
    have hsame : (s.landed nth).checkPlan l'.page l'.value = s.checkPlan page l.value :=
      s.checkPlan_landed nth page l.value
    cases hcheck : s.checkPlan page l.value with
    | some f =>
      rw [State.endLoad_refused (s := s.landed nth) (l := l') (hsame.trans hcheck),
        State.commit_of_empty _ (by exact State.running_staged hrun)]
      refine ⟨_, rfl, State.raise_caused _ _, rfl, fun f' hf => ?_, nofun⟩
      obtain rfl : f = f' := Option.some.inj hf
      exact ⟨rfl, ⟨rfl, rfl, rfl, rfl⟩, ⟨rfl, rfl⟩, ⟨rfl, rfl, rfl⟩, rfl⟩
    | none =>
      rw [State.endLoad_passed (s := s.landed nth) (l := l') (hsame.trans hcheck)]
      refine ⟨_, rfl, ?_, ((s.landed nth).forcePlan_within _).commit_inFlight, nofun, fun _ => ⟨?_, rfl⟩⟩
      · rw [State.commit_caused, State.forcePlan_caused]
      · rw [State.commit_loader, State.forcePlan_loader]
        rfl

end Sys2Proof.Machine
end

section
/-! The deck links at an event: what the levels leave of a link, what an operation of one link changes beside it, and how
the taking of the queue's head and the completion of a mode change leave the link (R50 to R65). -/

namespace Sys2Proof

/-- A table whose record an update leaves as it was. -/
theorem update_eq_self {α : Type} {n : Nat} (v : Vector α n) (i : Fin n) {f : α → α} (h : f (look v i) = look v i) :
    update v i f = v := by
  refine look_ext fun j => ?_
  rw [look_update]
  split
  next hij => exact hij ▸ h
  · rfl

/-- Two updates of one record are one. -/
theorem update_update {α : Type} {n : Nat} (v : Vector α n) (i : Fin n) (f g : α → α) :
    update (update v i f) i g = update v i fun a => g (f a) := by
  refine look_ext fun j => ?_
  simp only [look_update]
  split <;> rfl

/-- Updates that agree on the record they change. -/
theorem update_congr {α : Type} {n : Nat} (v : Vector α n) (i : Fin n) {f g : α → α} (h : f (look v i) = g (look v i)) :
    update v i f = update v i g := congrArg (v.set i.val · i.isLt) h

end Sys2Proof

namespace Sys2Proof.Machine

/-! ### Causes raised (R166) -/

theorem statusOnlyRaised.of_same {s t : State} (h : t.status = s.status) : statusOnlyRaised s t := by
  rw [statusOnlyRaised, h]
  exact ⟨rfl, BitVec.and_self⟩

theorem statusOnlyRaised.refl (s : State) : statusOnlyRaised s s := .of_same rfl

theorem statusOnlyRaised.trans {s t u : State} (h : statusOnlyRaised s t) (k : statusOnlyRaised t u) :
    statusOnlyRaised s u := by
  obtain ⟨hst, hkept⟩ := h
  obtain ⟨htu, hkept'⟩ := k
  constructor
  · rw [htu, hst]
  · calc s.status.causes &&& u.status.causes
        = s.status.causes &&& (t.status.causes &&& u.status.causes) := by rw [← BitVec.and_assoc, hkept]
      _ = s.status.causes := by rw [hkept', hkept]

/-- The same, the later part first. -/
theorem statusOnlyRaised.after {s t u : State} (k : statusOnlyRaised t u) (h : statusOnlyRaised s t) :
    statusOnlyRaised s u := h.trans k

theorem State.raise_raised (s : State) (c : Cause) : statusOnlyRaised s (s.raise c) := by
  refine ⟨rfl, ?_⟩
  show s.status.causes &&& (s.status.causes ||| c.bit) = s.status.causes
  ext i hi
  simpa using Or.inl

theorem State.raiseIf_raised (s : State) (b : Bool) (c : Cause) : statusOnlyRaised s (s.raiseIf b c) := by
  rw [State.raiseIf_eq]
  split
  · exact s.raise_raised c
  · exact .refl s

/-- A cause once set stays set. -/
theorem statusOnlyRaised.caused {s t : State} (h : statusOnlyRaised s t) {c : Cause} (hc : s.caused c = true) :
    t.caused c = true := by
  obtain ⟨-, hkept⟩ := h
  simp only [State.caused, State.hasCause, bne_iff_ne, ne_eq] at hc ⊢
  rw [← hkept, BitVec.and_assoc] at hc
  intro hzero
  rw [hzero] at hc
  exact hc BitVec.and_zero

theorem State.raiseIf_caused (s : State) {b : Bool} (c : Cause) (h : b = true) : (s.raiseIf b c).caused c = true := by
  rw [State.raiseIf_eq, if_pos h]
  exact State.raise_caused s c

/-- What `LinkSide` keeps and causes raised are all that `onlyLink` allows. -/
theorem LinkSide.onlyLink {l : LinkId} {s t : State} (h : LinkSide l s t) (hr : statusOnlyRaised s t) : onlyLink s t l :=
  ⟨⟨h.chans, h.prots, h.guards, h.esl⟩, ⟨h.routers, h.ringWriter, h.repeater⟩, ⟨h.loader, h.planSel, h.inReset⟩, h.others,
    hr, h.samePath⟩

/-! ### What the levels leave of a link (log 9) -/

/-- One bit-time changes only what reads the line: the counts, the assembly buffer and the levels still to send. -/
theorem LinkCtl.track_eq (k : LinkCtl) (b : Level) : ∃ gaps idle marks run buffer item, (k.track b).1 =
    { k with
      gapCount := gaps, idleRun := idle, markBits := marks, dominantRun := run, assembly := buffer, item := item } := by
  unfold LinkCtl.track
  split
  · split
    · cases b with
      | recessive => exact ⟨_, _, _, _, _, _, rfl⟩
      | dominant =>
        unfold LinkCtl.trackQuiet
        dsimp only
        split <;> exact ⟨_, _, _, _, _, _, rfl⟩
    · exact ⟨_, _, _, _, _, _, rfl⟩
  · split
    · exact ⟨_, _, _, _, _, _, rfl⟩
    · unfold LinkCtl.trackPhase
      cases k.phase with
      | gapWait => cases b <;> exact ⟨_, _, _, _, _, _, rfl⟩
      | idle => cases b <;> exact ⟨_, _, _, _, _, _, rfl⟩
      | sending | receiving | marking | detached => exact ⟨_, _, _, _, _, _, rfl⟩

/-- What no level read changes: the mode, the mode left, the mode that waits and the health. -/
def LinkCtl.posture (k : LinkCtl) : Mode × Mode × Option Mode × Health := (k.mode, k.modeLeft, k.pendingMode, k.health)

theorem LinkCtl.track_posture (k : LinkCtl) (b : Level) : (k.track b).1.posture = k.posture := by
  obtain ⟨_, _, _, _, _, _, h⟩ := k.track_eq b
  rw [h]
  rfl

theorem LinkCtl.advance_posture {k k' : LinkCtl} {e : WireEvent} {bs : List Level} (h : k.advance bs = some (k', e)) :
    k'.posture = k.posture := by
  fun_induction LinkCtl.advance k bs with
  | case1 k => cases h
  | case2 k b =>
    obtain rfl : (k.track b).1 = k' := congrArg Prod.fst (Option.some.inj h)
    exact k.track_posture b
  | case3 k b bs _ k₁ htrack ih =>
    have hfirst := k.track_posture b
    rw [htrack] at hfirst
    exact (ih h).trans hfirst
  | case4 k b bs _ _ => cases h

theorem State.brings_iff (s : State) (l : LinkId) (levels : List Level) (e : WireEvent) :
    s.brings l levels e = true ↔ (s.link l).advance levels = some (s.after l levels, e) := by
  unfold State.brings State.after
  cases (s.link l).advance levels with
  | none => simp
  | some x => simp [Prod.ext_iff]

section
variable {s : State} {l : LinkId} {levels : List Level} {e : WireEvent} (h : s.brings l levels e = true)
include h

theorem State.after_posture : (s.after l levels).posture = (s.link l).posture :=
  LinkCtl.advance_posture ((s.brings_iff l levels e).mp h)

theorem State.after_mode : (s.after l levels).mode = (s.link l).mode := congrArg (·.1) (State.after_posture h)
theorem State.after_modeLeft : (s.after l levels).modeLeft = (s.link l).modeLeft :=
  congrArg (·.2.1) (State.after_posture h)
theorem State.after_pendingMode : (s.after l levels).pendingMode = (s.link l).pendingMode :=
  congrArg (·.2.2.1) (State.after_posture h)
theorem State.after_health : (s.after l levels).health = (s.link l).health := congrArg (·.2.2.2) (State.after_posture h)

end

/-- The state whose link has read the levels of a line command. -/
def State.heard (s : State) (l : LinkId) (levels : List Level) : State := s.modLink l fun _ => s.after l levels

@[simp] theorem State.heard_link (s : State) (l : LinkId) (levels : List Level) :
    (s.heard l levels).link l = s.after l levels := s.link_modLink_self l _
@[simp] theorem State.heard_sender (s : State) (l m : LinkId) (levels : List Level) :
    (s.heard l levels).sender m = s.sender m := rfl
@[simp] theorem State.heard_slot (s : State) (l m : LinkId) (i : SlotId) (levels : List Level) :
    (s.heard l levels).slot m i = s.slot m i := rfl

theorem State.heard_linkSide (s : State) (l : LinkId) (levels : List Level) : LinkSide l s (s.heard l levels) :=
  s.modLink_linkSide l _

/-- A line command whose levels bring about its event takes effect on the link as they leave it. -/
theorem State.wire_of_brings {s : State} {l : LinkId} {levels : List Level} {e : WireEvent}
    (h : s.brings l levels e = true) (f : State → State) : s.wire l levels e f = f (s.heard l levels) := by
  rw [State.wire, (s.brings_iff l levels e).mp h]
  exact if_pos rfl

/-- A line command as a whole event, where its effect is on one link. -/
theorem State.wireEvent_eq {s : State} {l : LinkId} {levels : List Level} {e : WireEvent} (hrun : s.running = true)
    (h : s.brings l levels e = true) {f : State → State} (hf : ∀ u, LinkSide l u (f u)) :
    (s.event fun t => t.wire l levels e f) = f (s.heard l levels) := by
  have hwire := State.wire_of_brings h f
  rw [s.event_eq _ hrun, hwire]
  rw [hwire, (hf _).samePath]
  exact State.running_staged hrun

/-! ### The head of the send queue (R51, R64, R76) -/

theorem LinkCtl.takeHead_of_not_canTake {k : LinkCtl} (h : k.canTake = false) (c : SendCtl) : k.takeHead c = k := by
  simp [LinkCtl.takeHead, LinkCtl.takes, h]

theorem SendCtl.giveHead_of_not_canTake (c : SendCtl) {k : LinkCtl} (h : k.canTake = false) : c.giveHead k = c := by
  simp [SendCtl.giveHead, LinkCtl.takes, h]

theorem LinkCtl.takeHead_of_empty (k : LinkCtl) {c : SendCtl} (h : c.queue = []) : k.takeHead c = k := by
  simp [LinkCtl.takeHead, LinkCtl.takes, h]

theorem SendCtl.giveHead_of_empty {c : SendCtl} (h : c.queue = []) (k : LinkCtl) : c.giveHead k = c := by
  simp [SendCtl.giveHead, LinkCtl.takes, h]

/-- A link that may not take the head, or finds none, leaves everything. -/
theorem State.kick_idle {s : State} {l : LinkId} (h : (s.link l).canTake = false ∨ (s.sender l).queue = []) :
    s.kick l = s := by
  have hlinks : update s.links l (fun k => k.takeHead (s.sender l)) = s.links := by
    refine update_eq_self _ _ ?_
    rcases h with h | h
    · exact LinkCtl.takeHead_of_not_canTake h _
    · exact LinkCtl.takeHead_of_empty _ h
  have hsenders : update s.senders l (fun c => c.giveHead (s.link l)) = s.senders := by
    refine update_eq_self _ _ ?_
    rcases h with h | h
    · exact SendCtl.giveHead_of_not_canTake _ h
    · exact SendCtl.giveHead_of_empty h _
  rw [State.kick, hlinks, hsenders]

/-- A link that may take the head puts it on the wire. -/
theorem State.kick_takes {s : State} {l : LinkId} {x : QueueItem} {xs : List QueueItem} (h : (s.link l).canTake = true)
    (hq : (s.sender l).queue = x :: xs) : s.kick l =
      { s with
        links := update s.links l fun k => k.withItem ((s.sender l).message x.ref) x.ref
        senders := update s.senders l fun c => { c with queue := xs }.putOnWire x.ref } := by
  have htakes : (s.link l).takes (s.sender l) = some x := by simp [LinkCtl.takes, h, hq]
  have hlinks : update s.links l (fun k => k.takeHead (s.sender l))
      = update s.links l fun k => k.withItem ((s.sender l).message x.ref) x.ref := by
    refine update_congr _ _ ?_
    show (s.link l).takeHead (s.sender l) = _
    rw [LinkCtl.takeHead, htakes]
    rfl
  have hsenders : update s.senders l (fun c => c.giveHead (s.link l))
      = update s.senders l fun c => { c with queue := xs }.putOnWire x.ref := by
    refine update_congr _ _ ?_
    show (s.sender l).giveHead (s.link l) = { s.sender l with queue := xs }.putOnWire x.ref
    rw [SendCtl.giveHead, htakes]
    show { s.sender l with queue := (s.sender l).queue.tail }.putOnWire x.ref = _
    rw [hq]
    rfl
  rw [State.kick, hlinks, hsenders]

/-- In RUN only an IDLE link takes the head (R51). -/
theorem LinkCtl.canTake_of_run {k : LinkCtl} (h : k.mode = .run) (hp : k.phase ≠ .idle) : k.canTake = false := by
  simp [LinkCtl.canTake, h, hp]

/-- Outside MIRROR only an IDLE link takes the head. -/
theorem LinkCtl.canTake_of_not_mirror {k : LinkCtl} (h : k.mode ≠ .mirror) (hp : k.phase ≠ .idle) : k.canTake = false := by
  simp [LinkCtl.canTake, h, hp]

/-- In MIRROR nothing is taken before the gap has passed (R64). -/
theorem LinkCtl.canTake_of_mirror {k : LinkCtl} (h : k.mode = .mirror) (hg : k.mirrorGap = false) : k.canTake = false := by
  simp [LinkCtl.canTake, h, hg]

/-! ### Outcomes handed over (R77, R85) -/

theorem State.pollTake_raised (s : State) (l : LinkId) : statusOnlyRaised s (s.pollTake l) := .of_same rfl

theorem State.changeSlot_raised (s : State) (l : LinkId) (i : SlotId) (f : Slot → Slot) :
    statusOnlyRaised s (s.changeSlot l i f) := (State.raiseIf_raised _ _ _).after (.of_same rfl)

theorem State.itemOutcome_raised (s : State) (l : LinkId) (r : ItemRef) (o : Outcome) :
    statusOnlyRaised s (s.itemOutcome l r o) := by
  cases r with
  | slot i => exact s.changeSlot_raised l i _
  | poll =>
    simp only [State.itemOutcome, State.askOutcome]
    split
    · exact .refl s
    · exact (State.pollTake_raised _ l).after (.of_same rfl)

theorem State.endItem_raised (s : State) (l : LinkId) (o : Outcome) : statusOnlyRaised s (s.endItem l o) := by
  unfold State.endItem
  split
  · exact .refl s
  · exact State.itemOutcome_raised _ l _ o

/-- A poll sender under a link that may not take the head leaves the link, and the slots of its Send Controller. -/
theorem State.pollTake_link {s : State} {l : LinkId} (h : (s.link l).canTake = false) :
    (s.pollTake l).link l = s.link l ∧ ((s.pollTake l).sender l).slots = (s.sender l).slots := by
  simp only [State.pollTake, State.kick, State.link, State.sender, look_update_self]
  refine ⟨LinkCtl.takeHead_of_not_canTake h _, ?_⟩
  refine (congrArg SendCtl.slots (SendCtl.giveHead_of_not_canTake _ h)).trans ?_
  split <;> rfl

theorem SendCtl.changeSlot_slots (c : SendCtl) (i : SlotId) (f : Slot → Slot) :
    (c.changeSlot i f).slots = update c.slots i f := by
  unfold SendCtl.changeSlot
  dsimp only
  split <;> rfl

@[simp] theorem State.changeSlot_sender (s : State) (l : LinkId) (i : SlotId) (f : Slot → Slot) :
    (s.changeSlot l i f).sender l = (s.sender l).changeSlot i f := s.sender_modSender_self l _

@[simp] theorem State.changeSlot_slot (s : State) (l : LinkId) (i : SlotId) (f : Slot → Slot) :
    (s.changeSlot l i f).slot l i = f (s.slot l i) := by
  rw [State.slot, State.changeSlot_sender, SendCtl.changeSlot_slots, look_update_self]
  rfl

/-- A slot that enters SENT, FAILED or ABORTED raises cause SENT (R69). -/
theorem State.changeSlot_caused (s : State) (l : LinkId) (i : SlotId) {f : Slot → Slot}
    (h : (f (s.slot l i)).state.ended = true) : (s.changeSlot l i f).caused .sent = true := State.raiseIf_caused _ _ h

/-- An outcome handed over while the link may not take the head leaves the link. -/
theorem State.itemOutcome_link {s : State} {l : LinkId} (h : (s.link l).canTake = false) (r : ItemRef) (o : Outcome) :
    (s.itemOutcome l r o).link l = s.link l := by
  cases r with
  | slot i => rfl
  | poll =>
    simp only [State.itemOutcome, State.askOutcome]
    split
    · rfl
    · refine (State.pollTake_link ?_).1.trans rfl
      exact h

theorem State.endItem_none {s : State} {l : LinkId} (h : (s.link l).item = none) (o : Outcome) : s.endItem l o = s := by
  rw [State.endItem, h]

theorem State.endItem_some {s : State} {l : LinkId} {it : WireItem} (h : (s.link l).item = some it) (o : Outcome) :
    s.endItem l o = (s.modLink l fun k => { k with item := none }).itemOutcome l it.ref o := by
  rw [State.endItem, h]

/-- The end of the item leaves the rest of a link that may not take the next. -/
theorem State.endItem_link {s : State} {l : LinkId} (h : { s.link l with item := none }.canTake = false) (o : Outcome) :
    (s.endItem l o).link l = { s.link l with item := none } := by
  cases hitem : (s.link l).item with
  | none => rw [State.endItem_none hitem, ← hitem]
  | some it =>
    rw [State.endItem_some hitem, State.itemOutcome_link]
    · exact s.link_modLink_self l _
    · rw [State.link_modLink_self]
      exact h

/-- The end of a slot's item changes that slot's Send Controller as the outcome says. -/
theorem State.endItem_slot {s : State} {l : LinkId} {i : SlotId} (h : (s.link l).item.map (·.ref) = some (.slot i))
    (o : Outcome) : s.endItem l o = (s.modLink l fun k => { k with item := none }).changeSlot l i fun sl =>
      sl.outcome (s.linkSettings l).retryLimit o := by
  obtain ⟨it, hitem, href⟩ := Option.map_eq_some_iff.mp h
  rw [State.endItem_some hitem, href]
  rfl

/-! ### Modes (R63) -/

theorem State.abortSends_raised (s : State) (l : LinkId) : statusOnlyRaised s (s.abortSends l) :=
  (State.raiseIf_raised _ _ _).after (.of_same rfl)

/-- The state in which a mode has been entered, before the head of the queue may go on the wire. -/
def State.entered (s : State) (l : LinkId) (m : Mode) : State :=
  State.raise
    { s with
      links := update s.links l fun k => k.enter m (!s.autoRecovery l) s.freeCount
      freeCount := if (s.link l).leavesFreely m then s.freeCount + 1 else s.freeCount } .link

theorem State.completeMode_eq (s : State) (l : LinkId) (m : Mode) :
    s.completeMode l m = (if m = .setup then (s.entered l m).abortSends l else s.entered l m).kick l := rfl

theorem State.entered_raised (s : State) (l : LinkId) (m : Mode) : statusOnlyRaised s (s.entered l m) :=
  (State.raise_raised _ _).after (.of_same rfl)

theorem State.entered_link (s : State) (l : LinkId) (m : Mode) :
    (s.entered l m).link l = (s.link l).enter m (!s.autoRecovery l) s.freeCount := look_update_self _ _ _

/-- What the completion of a mode change raises stays raised to its end. -/
theorem State.completeMode_entered_raised (s : State) (l : LinkId) (m : Mode) :
    statusOnlyRaised (s.entered l m) (s.completeMode l m) := by
  rw [State.completeMode_eq]
  refine statusOnlyRaised.trans ?_ (.of_same rfl)
  split
  · exact State.abortSends_raised _ l
  · exact .refl _

theorem State.completeMode_raised (s : State) (l : LinkId) (m : Mode) : statusOnlyRaised s (s.completeMode l m) :=
  (s.entered_raised l m).trans (s.completeMode_entered_raised l m)

theorem State.completeMode_caused (s : State) (l : LinkId) (m : Mode) : (s.completeMode l m).caused .link = true :=
  (s.completeMode_entered_raised l m).caused (State.raise_caused _ _)

/-- The link after the completion of a mode change: as it enters the mode, with the head of the queue where it takes it. -/
theorem State.completeMode_link (s : State) (l : LinkId) (m : Mode) : ∃ c, (s.completeMode l m).link l =
    ((s.link l).enter m (!s.autoRecovery l) s.freeCount).takeHead c := by
  rw [State.completeMode_eq, ← s.entered_link]
  split
  · exact ⟨_, look_update_self _ _ _⟩
  · exact ⟨_, look_update_self _ _ _⟩

theorem LinkCtl.enter_mode (k : LinkCtl) (m : Mode) (manual : Bool) (free : Nat) :
    (k.enter m manual free).mode = m ∧ (k.enter m manual free).pendingMode = none := by
  cases m with
  | run =>
    simp only [LinkCtl.enter]
    split <;> split <;> exact ⟨rfl, rfl⟩
  | listen | mirror =>
    simp only [LinkCtl.enter]
    split <;> exact ⟨rfl, rfl⟩
  | setup | quiet => exact ⟨rfl, rfl⟩

theorem State.completeMode_mode (s : State) (l : LinkId) (m : Mode) :
    ((s.completeMode l m).link l).mode = m ∧ ((s.completeMode l m).link l).pendingMode = none := by
  obtain ⟨c, hlink⟩ := s.completeMode_link l m
  have hstanding := ((s.link l).enter m (!s.autoRecovery l) s.freeCount).takeHead_standing c
  obtain ⟨hmode, hpending⟩ := (s.link l).enter_mode m (!s.autoRecovery l) s.freeCount
  rw [hlink]
  exact ⟨(congrArg (·.1) hstanding).trans hmode, (congrArg (·.2.1) hstanding).trans hpending⟩

/-- Where the link takes nothing in its new mode, the completion ends with the mode entered. -/
theorem State.completeMode_of_not_canTake {s : State} {l : LinkId} {m : Mode}
    (h : ((s.link l).enter m (!s.autoRecovery l) s.freeCount).canTake = false) :
    s.completeMode l m = if m = .setup then (s.entered l m).abortSends l else s.entered l m := by
  rw [State.completeMode_eq, State.kick_idle]
  rw [← s.entered_link] at h
  left
  split <;> exact h

theorem State.completeMode_link_of_not_canTake {s : State} {l : LinkId} {m : Mode}
    (h : ((s.link l).enter m (!s.autoRecovery l) s.freeCount).canTake = false) :
    (s.completeMode l m).link l = (s.link l).enter m (!s.autoRecovery l) s.freeCount := by
  rw [State.completeMode_of_not_canTake h, ← s.entered_link]
  split <;> rfl

theorem State.completePending_none {s : State} {l : LinkId} (h : (s.link l).pendingMode = none) :
    s.completePending l = s := by
  rw [State.completePending, h]

theorem State.completePending_some {s : State} {l : LinkId} {m : Mode} (h : (s.link l).pendingMode = some m) :
    s.completePending l = s.completeMode l m := by
  rw [State.completePending, h]

theorem State.completePending_raised (s : State) (l : LinkId) : statusOnlyRaised s (s.completePending l) := by
  unfold State.completePending
  split
  · exact .refl s
  · exact s.completeMode_raised l _

end Sys2Proof.Machine
end

section
/-! Mode requests: one that waits or is withheld (O17), one that completes at its taking (O18). -/

namespace Sys2Proof.Machine

/-! ### The request as a transfer (R62) -/

theorem modeOf_code (m : Mode) : modeOf (BitVec.ofNat 32 m.code) = some m := by cases m <;> rfl

theorem exec_modeCommand (m : Mode) (l : LinkId) (id : TransferId) (s : State) :
    exec (modeCommand m l id) s = .next (s.request (modeTransfer s.plan l m id)) := by cases m <;> rfl

theorem State.acceptsTrigger_mode (s : State) (l : LinkId) (m : Mode) :
    s.acceptsTrigger (.mode l) (BitVec.ofNat 32 m.code) = (s.link l).acceptsMode m := by
  rw [State.acceptsTrigger, modeOf_code]
  rfl

theorem State.triggerEffect_mode (s : State) (ts : List Touch) (l : LinkId) (m : Mode) :
    s.triggerEffect ts (.mode l) (BitVec.ofNat 32 m.code) = (s.requestMode l m, []) := by
  rw [State.triggerEffect, modeOf_code]

/-- The transfer of a mode request under a plan with a POST window. -/
theorem exec_modeCommand_presents {m : Mode} {l : LinkId} {id : TransferId} {a : Addr} {s : State}
    (ha : s.plan.windowAddr (.post l) 0 = some a) :
    exec (modeCommand m l id) s = .next (s.presentTransfer (wordWrite id a (BitVec.ofNat 32 m.code))) := by
  rw [exec_modeCommand, modeTransfer, ha]
  rfl

/-- A mode request taken and accepted: its effect on the link, and one entry whose write passes. -/
theorem exec_modeCommand_accepted {m : Mode} {l : LinkId} {id : TransferId} {a : Addr} {s : State}
    (h : s.takesNow = true) (ha : s.plan.windowAddr (.post l) 0 = some a) (hsees : s.sees a (.mode l) = true)
    (haccepts : (s.link l).acceptsMode m = true) :
    exec (modeCommand m l id) s =
      .next ((s.requestMode l m).withEntry (triggerEntry id a (BitVec.ofNat 32 m.code) [])) := by
  obtain ⟨-, -, -, hstaged, -⟩ := s.takesNow_iff.mp h
  have heffect := s.triggerEffect_mode [(.mode l, fullBeat (BitVec.ofNat 32 m.code))] l m
  have hpath : (s.requestMode l m).path = s.path := (s.requestMode_linkSide l m).samePath
  have htaken := s.trigger_taken id a (BitVec.ofNat 32 m.code) (.mode l) h hsees rfl
    ((s.acceptsTrigger_mode l m).trans haccepts) (by rw [heffect, hpath]; exact Path.grows_refl _)
  rw [exec_modeCommand_presents ha, htaken, heffect, State.commit_of_empty]
  exact (congrArg Path.staged hpath).trans hstaged

/-- Settles O17: a request taken while the link is busy only waits; a refused one is a withheld write. -/
theorem modeRequestWaitsOrIsWithheld : Obligations.ModeRequestWaitsOrIsWithheld := by
  refine ⟨fun m l id a s h ha hsees hbusy haccepts => ?_, fun l id a s h ha hsees hrefused => ?_⟩
  · rw [exec_modeCommand_accepted h ha hsees haccepts, State.requestMode, if_pos hbusy]
    rfl
  · have hwithheld := s.trigger_withheld id a (BitVec.ofNat 32 Mode.quiet.code) (.mode l) h hsees rfl
      ((s.acceptsTrigger_mode l .quiet).trans hrefused)
    exact (exec_modeCommand_presents (m := .quiet) ha).trans (congrArg Host.Outcome.next hwithheld)

/-! ### The completion (R63 to R65, R80) -/

theorem LinkCtl.enter_setup (k : LinkCtl) (manual : Bool) (free : Nat) :
    let k' := k.enter .setup manual free
    k'.score = 0 ∧ k'.health = .active ∧ k'.recoveryArmed = false ∧ k'.phase = .detached ∧ k'.canTake = false :=
  ⟨rfl, rfl, rfl, rfl, rfl⟩

/-- RUN and LISTEN entered from another mode wait for a quiet gap (R50). -/
theorem LinkCtl.enter_attached {k : LinkCtl} {m : Mode} (hm : m = .run ∨ m = .listen) (h : k.mode.attached = false)
    (manual : Bool) (free : Nat) :
    (k.enter m manual free).phase = .gapWait ∧ (k.enter m manual free).gapCount = 0 := by
  rcases hm with rfl | rfl
  · simp only [LinkCtl.enter, h]
    split <;> exact ⟨rfl, rfl⟩
  · simp only [LinkCtl.enter, h]
    exact ⟨rfl, rfl⟩

theorem LinkCtl.enter_mirror {k : LinkCtl} (h : k.mode ≠ .mirror) (manual : Bool) (free : Nat) :
    (k.enter .mirror manual free).phase = .detached ∧ (k.enter .mirror manual free).mirrorGap = false := by
  have hentered : k.enter .mirror manual free
      = { { k with mode := .mirror, pendingMode := none }.detach with mirrorGap := false } := if_neg h
  rw [hentered]
  exact ⟨rfl, rfl⟩

theorem LinkCtl.enter_quiet (k : LinkCtl) (manual : Bool) (free : Nat) :
    (k.enter .quiet manual free).phase = .detached ∧ (k.enter .quiet manual free).modeLeft = k.leaving free := ⟨rfl, rfl⟩

theorem Mode.attached_iff (m : Mode) : m.attached = true ↔ m = .run ∨ m = .listen := by
  simp [Mode.attached]

theorem LinkCtl.leaving_attached {k : LinkCtl} (h : k.mode.attached = true) (free : Nat) : k.leaving free = k.mode := by
  rw [LinkCtl.leaving, if_pos h]

/-- The Send Controller of a link that enters SETUP (R80). -/
theorem State.completeMode_setup_sender (s : State) (l : LinkId) :
    (s.completeMode l .setup).sender l = (s.sender l).abortAll := by
  obtain ⟨-, -, -, -, htake⟩ := (s.link l).enter_setup (!s.autoRecovery l) s.freeCount
  rw [State.completeMode_of_not_canTake htake, if_pos rfl]
  exact look_update_self _ _ _

/-- Settles O18: the link enters its mode, and takes the head of the queue only where that mode lets it. -/
theorem modeRequestCompletes : Obligations.ModeRequestCompletes := by
  intro m l id a s h ha hsees hbusy haccepts
  have hfree : ¬ (s.link l).busy = true := by simp [hbusy]
  have hside := s.completeMode_linkSide l m
  obtain ⟨hmode, hpending⟩ := s.completeMode_mode l m
  obtain ⟨hdrive, hreceive, hplan, hothers, hraised, hpath⟩ := hside.onlyLink (s.completeMode_raised l m)
  refine ⟨_, exec_modeCommand_accepted h ha hsees haccepts, ?_⟩
  rw [State.requestMode, if_neg hfree]
  refine ⟨hmode, hpending, s.completeMode_caused l m, ?_, hdrive, hreceive, hplan, hothers, hraised,
    fun hsetup => ?_, fun hattached hrun hlisten => ?_, fun hmirror hleft => ?_, fun hquiet => ?_⟩
  · exact congrArg (fun p : Path => { p with
      orderList := p.orderList ++ [triggerEntry id a (BitVec.ofNat 32 m.code) []] }) hpath
  · subst hsetup
    obtain ⟨hscore, hhealth, harmed, hphase, htake⟩ :=
      (s.link l).enter_setup (!s.autoRecovery l) s.freeCount
    have hlink := State.completeMode_link_of_not_canTake htake
    have hsender := s.completeMode_setup_sender l
    exact ⟨(congrArg LinkCtl.score hlink).trans hscore, (congrArg LinkCtl.health hlink).trans hhealth,
      (congrArg LinkCtl.recoveryArmed hlink).trans harmed, (congrArg LinkCtl.phase hlink).trans hphase,
      congrArg SendCtl.queue hsender, congrArg SendCtl.slots hsender⟩
  · have hleft : (s.link l).mode.attached = false := by
      simp [Mode.attached, hrun, hlisten]
    obtain ⟨hphase, hgap⟩ := LinkCtl.enter_attached hattached hleft (!s.autoRecovery l) s.freeCount
    obtain ⟨hentered, -⟩ := (s.link l).enter_mode m (!s.autoRecovery l) s.freeCount
    have hlink := State.completeMode_link_of_not_canTake (s := s) (l := l) (m := m)
      (LinkCtl.canTake_of_not_mirror (by rw [hentered]; rcases hattached with rfl | rfl <;> decide)
        (by rw [hphase]; decide))
    exact ⟨(congrArg LinkCtl.phase hlink).trans hphase, (congrArg LinkCtl.gapCount hlink).trans hgap⟩
  · subst hmirror
    obtain ⟨hphase, hgap⟩ := LinkCtl.enter_mirror hleft (!s.autoRecovery l) s.freeCount
    obtain ⟨hentered, -⟩ := (s.link l).enter_mode .mirror (!s.autoRecovery l) s.freeCount
    have hlink := State.completeMode_link_of_not_canTake (LinkCtl.canTake_of_mirror hentered hgap)
    exact ⟨(congrArg LinkCtl.phase hlink).trans hphase, (congrArg LinkCtl.mirrorGap hlink).trans hgap⟩
  · subst hquiet
    obtain ⟨hphase, hleft⟩ := (s.link l).enter_quiet (!s.autoRecovery l) s.freeCount
    have hlink := State.completeMode_link_of_not_canTake (s := s) (l := l) (m := .quiet) rfl
    refine ⟨(congrArg LinkCtl.phase hlink).trans hphase, fun hattached => ?_⟩
    exact ((congrArg LinkCtl.modeLeft hlink).trans hleft).trans
      (LinkCtl.leaving_attached ((Mode.attached_iff _).mpr hattached) _)

end Sys2Proof.Machine
end

section
/-! The events of a deck line that route nothing: gaps, recovery, start marks and wakes (O19), a lost arbitration (O20), a
message sent (O21), the end of a message by STUCK or by an error mark (O23). -/

namespace Sys2Proof.Machine

/-! ### One link changed twice -/

theorem State.modLink_modLink (s : State) (l : LinkId) (f g : LinkCtl → LinkCtl) :
    (s.modLink l f).modLink l g = s.modLink l fun k => g (f k) :=
  congrArg (fun ks => { s with links := ks }) (update_update s.links l f g)

theorem State.heard_modLink (s : State) (l : LinkId) (levels : List Level) (f : LinkCtl → LinkCtl) :
    (s.heard l levels).modLink l f = s.modLink l fun _ => f (s.after l levels) := s.modLink_modLink l _ f

/-! ### Gaps, recovery, start marks, wakes (R50, R60, R65) -/

theorem SendCtl.putOnWire_queue (c : SendCtl) (r : ItemRef) : (c.putOnWire r).queue = c.queue := by
  cases r <;> rfl

theorem LinkCtl.canTake_of_idle {k : LinkCtl} (h : k.mode = .run) (hp : k.phase = .idle) (hh : k.health ≠ .silent) :
    k.canTake = true := by
  simp [LinkCtl.canTake, h, hp, hh]

/-- A link in RUN with an item begins sending it (R51). -/
theorem LinkCtl.withItem_of_run {k : LinkCtl} (h : k.mode = .run) (m : Message) (r : ItemRef) : k.withItem m r =
    { k with phase := .sending, item := some ⟨r, m, m.levels, true⟩, assembly := Assembly.empty } := by
  rw [LinkCtl.withItem, h]
  rfl

section
variable {s : State} {l : LinkId} {levels : List Level} (hrun : s.running = true)
include hrun

theorem exec_quietGap (hb : s.brings l levels .gap = true) (hlast : (s.link l).lastGap = false) :
    exec (.quietGap l levels) s = .next ((s.heard l levels).quietGap l) := by
  rw [← State.wireEvent_eq hrun hb fun u => u.quietGap_linkSide l]
  show execQuietGap l levels s = _
  rw [execQuietGap, hlast]
  rfl

theorem exec_recovery (hb : s.brings l levels .gap = true) (hlast : (s.link l).lastGap = true) :
    exec (.recovery l levels) s = .next ((s.heard l levels).recover l) := by
  rw [← State.wireEvent_eq hrun hb fun u => u.recover_linkSide l]
  show execRecovery l levels s = _
  rw [execRecovery, hlast]
  rfl

theorem exec_startMarkRead (hb : s.brings l levels .startMark = true) :
    exec (.startMarkRead l levels) s = .next ((s.heard l levels).modLink l LinkCtl.receive) :=
  congrArg Host.Outcome.next (State.wireEvent_eq hrun hb fun u => u.modLink_linkSide l _)

theorem exec_quietWake (hb : s.brings l levels .wake = true) :
    exec (.quietWake l levels) s = .next ((s.heard l levels).wake l) :=
  congrArg Host.Outcome.next (State.wireEvent_eq hrun hb fun u => u.wake_linkSide l)

theorem exec_arbitrationLost (hb : s.brings l levels .lost = true) :
    exec (.arbitrationLost l levels) s = .next ((s.heard l levels).arbitrationLost l) :=
  congrArg Host.Outcome.next (State.wireEvent_eq hrun hb fun u => u.arbitrationLost_linkSide l)

theorem exec_messageSent (hb : s.brings l levels .sentOk = true) :
    exec (.messageSent l levels) s = .next ((s.heard l levels).messageSent l) :=
  congrArg Host.Outcome.next (State.wireEvent_eq hrun hb fun u => u.messageSent_linkSide l)

theorem exec_stuck (hb : s.brings l levels .stuck = true) :
    exec (.stuck l levels) s = .next ((s.heard l levels).stuckError l) :=
  congrArg Host.Outcome.next (State.wireEvent_eq hrun hb fun u => u.stuckError_linkSide l)

theorem exec_errorMarkEnd (hb : s.brings l levels .markEnd = true) :
    exec (.errorMarkEnd l levels) s = .next ((s.heard l levels).markEnds l) :=
  congrArg Host.Outcome.next (State.wireEvent_eq hrun hb fun u => u.markEnds_linkSide l)

end

/-- A link at a quiet gap, before the head of the queue may go on the wire (R50, R60). -/
def LinkCtl.atGap (k : LinkCtl) : LinkCtl :=
  { k with phase := .idle, idleRun := 0, recoveryGaps := if k.recovering then k.recoveryGaps + 1 else k.recoveryGaps }

theorem State.quietGap_heard (s : State) (l : LinkId) (levels : List Level) :
    (s.heard l levels).quietGap l = (s.modLink l fun _ => (s.after l levels).atGap).kick l :=
  congrArg (State.kick · l) (s.heard_modLink l levels LinkCtl.atGap)

/-- A link whose recovery is complete (R60). -/
def LinkCtl.recovered (k : LinkCtl) : LinkCtl :=
  { k with phase := .idle, idleRun := 0, score := 0, health := .active, recoveryArmed := false, recoveryGaps := 0 }

/-- The state whose link has recovered, before the head of the queue may go on the wire. -/
def State.recovering (s : State) (l : LinkId) (levels : List Level) : State :=
  (s.modLink l fun _ => (s.after l levels).recovered).raise .link

theorem State.recover_heard (s : State) (l : LinkId) (levels : List Level) :
    (s.heard l levels).recover l = (s.recovering l levels).kick l :=
  congrArg (fun t => (State.raise t .link).kick l) (s.heard_modLink l levels LinkCtl.recovered)

theorem State.recovering_link (s : State) (l : LinkId) (levels : List Level) :
    (s.recovering l levels).link l = (s.after l levels).recovered := s.link_modLink_self l _

theorem State.recover_raised (s : State) (l : LinkId) (levels : List Level) :
    statusOnlyRaised s ((s.recovering l levels).kick l) :=
  statusOnlyRaised.after (.of_same rfl) ((State.raise_raised _ _).after (.of_same rfl))

theorem LinkCtl.lastGap_mode {k : LinkCtl} (h : k.lastGap = true) : k.mode = .run := by
  simp only [LinkCtl.lastGap, LinkCtl.recovering, Bool.and_eq_true, beq_iff_eq] at h
  obtain ⟨⟨⟨hmode, -⟩, -⟩, -⟩ := h
  exact hmode

/-- Settles O19: each event changes the link alone, and then the head of the queue goes on the wire if the link takes it. -/
theorem gapsStartMarksAndWakes : Obligations.GapsStartMarksAndWakes := by
  refine ⟨fun l levels s hrun hb hlast => ?_, fun l levels s hrun hb hlast => ?_, fun l levels s hrun hb => ?_,
    fun l levels s hrun hb => ?_⟩
  · intro k k'
    rw [exec_quietGap hrun hb hlast, s.quietGap_heard]
    have hlink : (s.modLink l fun _ => k').link l = k' := s.link_modLink_self l _
    refine ⟨fun h => ?_, fun x xs hmode hhealth hq => ?_⟩
    · rw [← hlink] at h
      exact congrArg Host.Outcome.next (State.kick_idle h)
    · intro m
      have htake : k'.canTake = true := LinkCtl.canTake_of_idle hmode rfl hhealth
      rw [← hlink] at htake
      refine congrArg Host.Outcome.next ((State.kick_takes htake hq).trans ?_)
      have hlinks : update (update s.links l fun _ => k') l (fun j => j.withItem m x.ref) = update s.links l fun _ =>
          { k' with phase := .sending, item := some ⟨x.ref, m, m.levels, true⟩, assembly := Assembly.empty } := by
        rw [update_update]
        exact congrArg (fun j => update s.links l fun _ => j) (LinkCtl.withItem_of_run (k := k') hmode m x.ref)
      exact congrArg (fun ks => { s with
        links := ks, senders := update s.senders l fun c => { c with queue := xs }.putOnWire x.ref }) hlinks
  · have hmode : (s.after l levels).recovered.mode = .run := (State.after_mode hb).trans (LinkCtl.lastGap_mode hlast)
    have hlink := s.recovering_link l levels
    have hside := (s.heard_linkSide l levels).trans (State.recover_linkSide _ l)
    rw [s.recover_heard] at hside
    refine ⟨_, exec_recovery hrun hb hlast, ?_⟩
    rw [s.recover_heard]
    have hraised : statusOnlyRaised (s.recovering l levels) ((s.recovering l levels).kick l) := .of_same rfl
    refine ⟨hside.onlyLink (s.recover_raised l levels), rfl, hraised.caused (State.raise_caused _ _), ?_⟩
    cases hq : (s.sender l).queue with
    | nil =>
      rw [State.kick_idle (s := s.recovering l levels) (.inr hq), hlink]
      exact ⟨rfl, rfl, rfl, rfl, hmode, fun _ => ⟨rfl, rfl⟩, nofun⟩
    | cons x xs =>
      have htake : ((s.recovering l levels).link l).canTake = true := by
        rw [hlink]
        exact LinkCtl.canTake_of_idle hmode rfl (by exact nofun)
      rw [State.kick_takes htake hq]
      simp only [State.link, State.sender, look_update_self]
      change look (s.recovering l levels).links l = _ at hlink
      rw [hlink, LinkCtl.withItem_of_run hmode]
      refine ⟨rfl, rfl, rfl, rfl, hmode, nofun, fun y ys hys => ?_⟩
      cases hys
      exact ⟨rfl, rfl, SendCtl.putOnWire_queue _ _⟩
  · rw [exec_startMarkRead hrun hb, s.heard_modLink]
    rfl
  · let woken (m : Mode) : LinkCtl := { s.after l levels with mode := m, phase := .gapWait, gapCount := 0, idleRun := 0 }
    have hlinks : update s.links l (fun _ => woken (s.after l levels).modeLeft)
        = update s.links l fun k => woken k.modeLeft :=
      update_congr _ _ (congrArg woken (State.after_modeLeft hb))
    rw [exec_quietWake hrun hb, State.wake, s.heard_modLink]
    exact congrArg (fun ks => Host.Outcome.next (State.raise { s with links := ks } .link)) hlinks

/-! ### What an outcome makes of a slot (Tables 4-5, 4-6 and 4-8) -/

section
variable (sl : Slot) (limit : Nat)

theorem Slot.outcome_attempts (o : Outcome) : (sl.outcome limit o).attempts = o.attempts sl.attempts := by
  unfold Slot.outcome
  dsimp only
  split
  · cases o <;> rfl
  · cases o with
    | sent | lost => rfl
    | error =>
      dsimp only
      split
      · rfl
      · unfold Slot.giveUp
        split <;> rfl

theorem Slot.outcome_lost (h : sl.abortMark = false) : sl.outcome limit .lost = { sl with state := .queued } := by
  simp [Slot.outcome, h, Slot.requeue, Outcome.attempts]

theorem Slot.outcome_lost_aborted (h : sl.abortMark = true) : sl.outcome limit .lost = sl.settle .aborted := by
  simp [Slot.outcome, h, Outcome.attempts, Slot.settle]

theorem Slot.outcome_sent (h : sl.purpose ≠ .answer) : (sl.outcome limit .sent).state = .sent := by
  cases hmark : sl.abortMark <;> simp [Slot.outcome, hmark, h, Slot.settle]

theorem Slot.outcome_answered (h : sl.purpose = .answer) (ha : sl.abortMark = false) :
    sl.outcome limit .sent = { sl with answers := satInc sl.answers }.settle .armed := by
  simp [Slot.outcome, h, ha, Slot.countAnswer, Outcome.attempts]

theorem Slot.outcome_retries (ha : sl.abortMark = false) (hr : retryAllows limit (satInc sl.attempts) = true) :
    sl.outcome limit .error = { sl with state := .queued, attempts := satInc sl.attempts } := by
  simp [Slot.outcome, ha, Outcome.attempts, hr, Slot.requeue]

theorem Slot.outcome_givenUp (h : sl.purpose ≠ .answer) (ha : sl.abortMark = false)
    (hr : retryAllows limit (satInc sl.attempts) = false) :
    sl.outcome limit .error = { sl with attempts := satInc sl.attempts }.fail .retries := by
  simp [Slot.outcome, ha, Outcome.attempts, hr, Slot.giveUp, h]

end

theorem retryAllows_iff (limit : Nat) (attempts : BitVec 8) :
    retryAllows limit attempts = true ↔ limit = 15 ∨ attempts.toNat ≤ limit := by
  simp [retryAllows]

/-- A slot that is now QUEUED joins the send queue at its place (R75). -/
theorem SendCtl.changeSlot_queued (c : SendCtl) (i : SlotId) {f : Slot → Slot}
    (h : f (look c.slots i) = { look c.slots i with state := .queued }) : c.changeSlot i f =
      { c with
        slots := update c.slots i fun x => { x with state := .queued }
        queue := insertItem c.acceptCount
          ⟨.slot i, ((look c.slots i).body.map (·.priority)).getD 0, (look c.slots i).acceptance⟩ c.queue } := by
  have hslots : update c.slots i f = update c.slots i fun x => { x with state := .queued } := update_congr _ _ h
  simp [SendCtl.changeSlot, SendCtl.modSlot, hslots, SendCtl.enqueueSlot, SendCtl.join]

/-! ### A lost arbitration (R52) -/

/-- A link that goes on as a receiver. -/
def LinkCtl.yields (k : LinkCtl) : LinkCtl := { k with phase := .receiving }

/-- Settles O20: the link and the item end as said, and then a mode that waits completes. -/
theorem arbitrationLossCostsNoAttempt : Obligations.ArbitrationLossCostsNoAttempt := by
  intro l levels s hrun hb hmode k
  let u := (s.heard l levels).modLink l LinkCtl.yields
  let v := u.endItem l .lost
  have hrunning : k.mode = .run := (State.after_mode hb).trans hmode
  have hu : u.link l = k.yields := by rw [State.link_modLink_self, State.heard_link]
  have hv : v.link l = { k with phase := .receiving, item := none } := by
    refine (State.endItem_link ?_ _).trans (by rw [hu]; rfl)
    rw [hu]
    exact LinkCtl.canTake_of_run hrunning (by exact nofun)
  have hvpending : (v.link l).pendingMode = k.pendingMode := (congrArg LinkCtl.pendingMode hv :)
  have hside := (s.heard_linkSide l levels).trans (State.arbitrationLost_linkSide _ l)
  have hraised : statusOnlyRaised s (v.completePending l) :=
    (State.completePending_raised _ l).after ((State.endItem_raised _ l _).after (.of_same rfl))
  refine ⟨_, exec_arbitrationLost hrun hb, hside.onlyLink hraised, fun hnone => ?_, fun m hsome => ?_,
    fun i href hnone => ?_⟩
  · exact (congrArg (State.link · l) (State.completePending_none (hvpending.trans hnone))).trans hv
  · have hcomplete : (s.heard l levels).arbitrationLost l = v.completeMode l m :=
      State.completePending_some (hvpending.trans hsome)
    rw [hcomplete]
    obtain ⟨hentered, hpending⟩ := v.completeMode_mode l m
    exact ⟨hentered, hpending, v.completeMode_caused l m⟩
  · intro sl c
    have hend : (s.heard l levels).arbitrationLost l = (u.modLink l fun k => { k with item := none }).changeSlot l i
        fun x => x.outcome (s.linkSettings l).retryLimit .lost :=
      (State.completePending_none (hvpending.trans hnone)).trans
        (State.endItem_slot (by rw [hu]; exact href) _)
    rw [hend]
    refine ⟨fun hmark => ?_, fun hmark => ?_⟩
    · rw [State.changeSlot_sender]
      exact SendCtl.changeSlot_queued c i (Slot.outcome_lost sl _ hmark)
    · have hlost := Slot.outcome_lost_aborted sl (s.linkSettings l).retryLimit hmark
      refine ⟨?_, ?_, State.changeSlot_caused _ l i ?_⟩
      · rw [State.changeSlot_slot]
        exact congrArg Slot.state hlost
      · rw [State.changeSlot_slot]
        exact (congrArg Slot.attempts hlost :)
      · exact (congrArg (fun x => x.state.ended) hlost).trans rfl

/-! ### Counters and scores (R54, R56, R59) -/

/-- One more event of a counter of the link. -/
def LinkCtl.counts (k : LinkCtl) (c : LinkCounter) : LinkCtl :=
  match c with
  | .shape => { k with shape := satInc k.shape }
  | .check => { k with check := satInc k.check }
  | .noConfirm => { k with noConfirm := satInc k.noConfirm }
  | .clash => { k with clash := satInc k.clash }
  | .stuck => { k with stuck := satInc k.stuck }
  | .sent => { k with sent := satInc k.sent }
  | .received => { k with received := satInc k.received }
  | .unrouted | .overruns | .mergedAsks => k

/-- The value of a counter of the link; the last three are of its router and its Send Controller. -/
def LinkCtl.counter (k : LinkCtl) (c : LinkCounter) : Counter :=
  match c with
  | .shape => k.shape
  | .check => k.check
  | .noConfirm => k.noConfirm
  | .clash => k.clash
  | .stuck => k.stuck
  | .sent => k.sent
  | .received => k.received
  | .unrouted | .overruns | .mergedAsks => 0

theorem State.bump_link (s : State) (l : LinkId) (c : LinkCounter) :
    (s.bump (.link l c)).link l = (s.link l).counts c := by
  cases c with
  | unrouted | overruns | mergedAsks => rfl
  | shape | check | noConfirm | clash | stuck | sent | received => exact s.link_modLink_self l _

theorem State.bump_autoRecovery (s : State) (l : LinkId) (c : LinkCounter) :
    (s.bump (.link l c)).autoRecovery l = s.autoRecovery l := by cases c <;> rfl

theorem State.bump_raised (s : State) (l : LinkId) (c : LinkCounter) : statusOnlyRaised s (s.bump (.link l c)) := by
  cases c <;> exact .of_same rfl

/-- A change of score leaves the rest of the link (R59). -/
theorem LinkCtl.rescore_eq (k : LinkCtl) (auto : Bool) (v : BitVec 8) : ∃ armed gaps, k.rescore auto v =
    { k with
      score := if k.mode = .run ∧ k.health ≠ .silent then v else k.score
      health := if k.mode = .run ∧ k.health ≠ .silent then healthOf v else k.health
      recoveryArmed := armed, recoveryGaps := gaps } := by
  unfold LinkCtl.rescore
  split
  · exact ⟨_, _, rfl⟩
  · exact ⟨_, _, rfl⟩

/-- A link after an event that counts and moves the score (R54, R56). -/
def LinkCtl.scored (k : LinkCtl) (c : LinkCounter) (auto : Bool) (v : BitVec 8) : LinkCtl := (k.counts c).rescore auto v

/-- What an event that counts and moves the score leaves of a link. -/
theorem LinkCtl.scored_eq (k : LinkCtl) (c : LinkCounter) (auto : Bool) (v : BitVec 8) : ∃ armed gaps,
    k.scored c auto v =
      { k.counts c with
        score := if k.mode = .run ∧ k.health ≠ .silent then v else k.score
        health := if k.mode = .run ∧ k.health ≠ .silent then healthOf v else k.health
        recoveryArmed := armed, recoveryGaps := gaps } := by
  obtain ⟨armed, gaps, h⟩ := (k.counts c).rescore_eq auto v
  refine ⟨armed, gaps, h.trans ?_⟩
  cases c <;> rfl

section
variable (k : LinkCtl) (c : LinkCounter) (auto : Bool) (v : BitVec 8)

theorem LinkCtl.scored_mode : (k.scored c auto v).mode = k.mode := by
  obtain ⟨_, _, h⟩ := k.scored_eq c auto v
  rw [h]
  cases c <;> rfl

theorem LinkCtl.scored_pendingMode : (k.scored c auto v).pendingMode = k.pendingMode := by
  obtain ⟨_, _, h⟩ := k.scored_eq c auto v
  rw [h]
  cases c <;> rfl

theorem LinkCtl.scored_item : (k.scored c auto v).item = k.item := by
  obtain ⟨_, _, h⟩ := k.scored_eq c auto v
  rw [h]
  cases c <;> rfl

theorem LinkCtl.scored_counter : (k.scored c auto v).counter c = (k.counts c).counter c := by
  obtain ⟨_, _, h⟩ := k.scored_eq c auto v
  rw [h]
  cases c <;> rfl

theorem LinkCtl.scored_score : (k.scored c auto v).score = if k.mode = .run ∧ k.health ≠ .silent then v else k.score := by
  obtain ⟨_, _, h⟩ := k.scored_eq c auto v
  rw [h]

theorem LinkCtl.scored_health :
    (k.scored c auto v).health = if k.mode = .run ∧ k.health ≠ .silent then healthOf v else k.health := by
  obtain ⟨_, _, h⟩ := k.scored_eq c auto v
  rw [h]

end

/-- The state after an event that counts and moves the score. -/
def State.scored (s : State) (l : LinkId) (c : LinkCounter) (f : BitVec 8 → BitVec 8) : State :=
  (s.bump (.link l c)).rescore l f

section
variable (s : State) (l : LinkId) (c : LinkCounter) (f : BitVec 8 → BitVec 8)

theorem State.scored_link :
    (s.scored l c f).link l = (s.link l).scored c (s.autoRecovery l) (f (s.link l).score) := by
  have hscore : ((s.link l).counts c).score = (s.link l).score := by cases c <;> rfl
  have hlink : (s.scored l c f).link l = ((s.bump (.link l c)).link l).rescore ((s.bump (.link l c)).autoRecovery l)
      (f ((s.bump (.link l c)).link l).score) := State.link_modLink_self _ l _
  rw [hlink, s.bump_link, s.bump_autoRecovery, hscore]
  rfl

theorem State.scored_raised : statusOnlyRaised s (s.scored l c f) :=
  (s.bump_raised l c).trans ((State.raiseIf_raised _ _ _).after (.of_same rfl))

/-- A change of health raises cause LINK (R59). -/
theorem State.scored_caused (h : ((s.scored l c f).link l).health ≠ (s.link l).health) :
    (s.scored l c f).caused .link = true := by
  refine State.raiseIf_caused _ _ ?_
  have hhealth : ((s.bump (.link l c)).link l).health = (s.link l).health := by
    rw [s.bump_link]
    cases c <;> rfl
  refine bne_iff_ne.mpr fun hsame => h ?_
  exact ((congrArg LinkCtl.health (State.link_modLink_self (s.bump (.link l c)) l _) :).trans hsame).trans hhealth

theorem State.scored_senders (h : c ≠ .mergedAsks) : (s.scored l c f).senders = s.senders := by
  cases c with
  | mergedAsks => exact absurd rfl h
  | shape | check | noConfirm | clash | stuck | sent | received | unrouted | overruns => rfl

end

section
variable {s : State} {l : LinkId} {levels : List Level} (c : LinkCounter) (f : BitVec 8 → BitVec 8)

/-- The link that has read its levels, counted and scored. -/
theorem State.heardScored_link : ((s.heard l levels).scored l c f).link l =
    (s.after l levels).scored c (s.autoRecovery l) (f (s.after l levels).score) := by
  have hlink := (s.heard l levels).scored_link l c f
  rw [State.heard_link] at hlink
  exact hlink

theorem State.heardScored_item :
    (((s.heard l levels).scored l c f).link l).item = (s.after l levels).item := by
  rw [State.heardScored_link, LinkCtl.scored_item]

theorem State.heardScored_counter :
    (((s.heard l levels).scored l c f).link l).counter c = ((s.after l levels).counts c).counter c := by
  rw [State.heardScored_link, LinkCtl.scored_counter]

theorem State.heardScored_raised : statusOnlyRaised s ((s.heard l levels).scored l c f) :=
  (State.scored_raised _ l c f).after (.of_same rfl)

variable {e : WireEvent} (h : s.brings l levels e = true)
include h

theorem State.heardScored_mode : (((s.heard l levels).scored l c f).link l).mode = (s.link l).mode := by
  rw [State.heardScored_link, LinkCtl.scored_mode, State.after_mode h]

theorem State.heardScored_pendingMode :
    (((s.heard l levels).scored l c f).link l).pendingMode = (s.link l).pendingMode := by
  rw [State.heardScored_link, LinkCtl.scored_pendingMode, State.after_pendingMode h]

end

/-! ### The end of a message (R54, R56, R57) -/

/-- The message on the line ends: the link waits for a gap, its item ends with an outcome, and a mode that waits completes. -/
def State.endMessage (s : State) (l : LinkId) (o : Outcome) : State :=
  ((s.modLink l LinkCtl.waitGap).endItem l o).completePending l

/-- The link after the end of a message with no mode waiting. -/
def LinkCtl.ended (k : LinkCtl) : LinkCtl := { k with phase := .gapWait, gapCount := 0, idleRun := 0, item := none }

theorem State.endMessage_raised (s : State) (l : LinkId) (o : Outcome) : statusOnlyRaised s (s.endMessage l o) :=
  (State.completePending_raised _ l).after ((State.endItem_raised _ l _).after (.of_same rfl))

section
variable {s : State} {l : LinkId} (hmode : (s.link l).mode = .run) (hpending : (s.link l).pendingMode = none)
include hmode

theorem State.endedItem_link (o : Outcome) : ((s.modLink l LinkCtl.waitGap).endItem l o).link l = (s.link l).ended := by
  have hlink : (s.modLink l LinkCtl.waitGap).link l = (s.link l).waitGap := s.link_modLink_self l _
  refine (State.endItem_link ?_ o).trans (by rw [hlink]; rfl)
  rw [hlink]
  exact LinkCtl.canTake_of_run hmode (by exact nofun)

include hpending

theorem State.endMessage_eq (o : Outcome) : s.endMessage l o = (s.modLink l LinkCtl.waitGap).endItem l o :=
  State.completePending_none ((congrArg LinkCtl.pendingMode (State.endedItem_link hmode o)).trans hpending)

theorem State.endMessage_link (o : Outcome) : (s.endMessage l o).link l = (s.link l).ended := by
  rw [State.endMessage_eq hmode hpending]
  exact State.endedItem_link hmode o

theorem State.endMessage_none (o : Outcome) (h : (s.link l).item = none) :
    s.endMessage l o = s.modLink l LinkCtl.waitGap := by
  rw [State.endMessage_eq hmode hpending]
  exact State.endItem_none ((congrArg LinkCtl.item (s.link_modLink_self l _)).trans h) o

/-- The end of a slot's message hands the slot its outcome. -/
theorem State.endMessage_slot {i : SlotId} (o : Outcome) (h : (s.link l).item.map (·.ref) = some (.slot i)) :
    (s.endMessage l o).slot l i = (s.slot l i).outcome (s.linkSettings l).retryLimit o
      ∧ (((s.slot l i).outcome (s.linkSettings l).retryLimit o).state.ended = true →
        (s.endMessage l o).caused .sent = true) := by
  have href : ((s.modLink l LinkCtl.waitGap).link l).item.map (·.ref) = some (.slot i) := by
    rw [State.link_modLink_self]
    exact h
  rw [State.endMessage_eq hmode hpending, State.endItem_slot href]
  exact ⟨State.changeSlot_slot _ l i _, fun hended => State.changeSlot_caused _ l i hended⟩

end

theorem Slot.ended_sent {sl : Slot} (h : sl.state = .sent) : sl.state.ended = true := by
  rw [h]
  rfl

/-- Settles O21: the counter and the score, then the end of the message with outcome SENT. -/
theorem messageSentEndsItem : Obligations.MessageSentEndsItem := by
  intro l levels s hrun hb hmode hpending k
  let u := (s.heard l levels).scored l .sent lowerScore
  have hrunning : k.mode = .run := (State.after_mode hb).trans hmode
  have humode : (u.link l).mode = .run := (State.heardScored_mode _ _ hb).trans hmode
  have hupending : (u.link l).pendingMode = none := (State.heardScored_pendingMode _ _ hb).trans hpending
  have hraised := u.endMessage_raised l .sent
  have hside := (s.heard_linkSide l levels).trans (State.messageSent_linkSide _ l)
  have hlink := State.endMessage_link humode hupending .sent
  have hu : u.link l = k.scored .sent (s.autoRecovery l) (lowerScore k.score) := State.heardScored_link _ _
  have hscore : ((u.endMessage l .sent).link l).score = (u.link l).score := (congrArg LinkCtl.score hlink :)
  have hhealth : ((u.endMessage l .sent).link l).health = (u.link l).health := (congrArg LinkCtl.health hlink :)
  rw [hu, LinkCtl.scored_score] at hscore
  rw [hu, LinkCtl.scored_health] at hhealth
  refine ⟨u.endMessage l .sent, exec_messageSent hrun hb,
    hside.onlyLink ((State.heardScored_raised _ _).trans hraised),
    (congrArg LinkCtl.sent hlink).trans (State.heardScored_counter .sent _), congrArg LinkCtl.phase hlink,
    congrArg LinkCtl.item hlink, (congrArg LinkCtl.mode hlink).trans humode, fun hactive => ?_, fun hsilent => ?_,
    fun i href => ?_⟩
  · rw [if_pos ⟨hrunning, hactive⟩] at hscore hhealth
    rw [hscore, hhealth]
    refine ⟨rfl, rfl, fun hchanged => hraised.caused (State.scored_caused _ l _ _ ?_)⟩
    have huhealth : (u.link l).health = healthOf (lowerScore k.score) := by
      rw [hu, LinkCtl.scored_health, if_pos ⟨hrunning, hactive⟩]
    rw [State.heard_link]
    exact huhealth ▸ hchanged
  · have hno : ¬ (k.mode = .run ∧ k.health ≠ .silent) := fun ⟨_, hactive⟩ => hactive hsilent
    rw [if_neg hno] at hscore hhealth
    exact ⟨hscore, hhealth.trans hsilent⟩
  · have hitem : (u.link l).item.map (·.ref) = some (.slot i) := by rw [State.heardScored_item]; exact href
    obtain ⟨hslot, hcaused⟩ := State.endMessage_slot humode hupending .sent hitem
    refine ⟨fun hsending => ?_, fun hanswering hmark => ?_⟩
    · have hsent := Slot.outcome_sent (u.slot l i) (u.linkSettings l).retryLimit hsending
      exact ⟨(congrArg Slot.state hslot).trans hsent, hcaused (Slot.ended_sent hsent)⟩
    · rw [Slot.outcome_answered (u.slot l i) _ hanswering hmark] at hslot
      exact ⟨congrArg Slot.state hslot, congrArg Slot.answers hslot, (congrArg Slot.armedTag hslot :)⟩

/-- Settles O23: both end the message with outcome ERROR, STUCK after its counter and the score. -/
theorem stuckAndMarkEndFailItem : Obligations.StuckAndMarkEndFailItem := by
  refine ⟨fun l levels s hrun hb hmode hpending => ?_, fun l levels s hrun hb hmode hpending => ?_⟩
  · intro k
    let f (n : BitVec 8) : BitVec 8 := addScore n (errorWeight (((s.heard l levels).link l).phase == .sending))
    let u := (s.heard l levels).scored l .stuck f
    have humode : (u.link l).mode = .run := (State.heardScored_mode _ _ hb).trans hmode
    have hupending : (u.link l).pendingMode = none := (State.heardScored_pendingMode _ _ hb).trans hpending
    have hlink := State.endMessage_link humode hupending .error
    have hside := (s.heard_linkSide l levels).trans (State.stuckError_linkSide _ l)
    refine ⟨u.endMessage l .error, exec_stuck hrun hb,
      hside.onlyLink ((State.heardScored_raised _ _).trans (u.endMessage_raised l .error)),
      (congrArg LinkCtl.stuck hlink).trans (State.heardScored_counter .stuck f), congrArg LinkCtl.phase hlink,
      congrArg LinkCtl.item hlink, fun i href => ?_⟩
    have hitem : (u.link l).item.map (·.ref) = some (.slot i) := by rw [State.heardScored_item]; exact href
    obtain ⟨hslot, -⟩ := State.endMessage_slot humode hupending .error hitem
    rw [hslot, Slot.outcome_attempts]
    rfl
  · intro k
    let u := s.heard l levels
    have hu : u.link l = k := s.heard_link l levels
    have humode : (u.link l).mode = .run := by rw [hu]; exact (State.after_mode hb).trans hmode
    have hupending : (u.link l).pendingMode = none := by rw [hu]; exact (State.after_pendingMode hb).trans hpending
    have hraised : statusOnlyRaised s (u.endMessage l .error) := (u.endMessage_raised l .error).after (.of_same rfl)
    have hside := (s.heard_linkSide l levels).trans (State.markEnds_linkSide _ l)
    refine ⟨u.endMessage l .error, exec_errorMarkEnd hrun hb, hside.onlyLink hraised, ?_, fun hnone => ?_,
      fun i href hsending hmark => ?_⟩
    · rw [State.endMessage_link humode hupending, hu]
      rfl
    · rw [State.endMessage_none humode hupending _ (by rw [hu]; exact hnone)]
      rfl
    · intro sl limit
      obtain ⟨hslot, hcaused⟩ := State.endMessage_slot humode hupending .error (by rw [hu]; exact href)
      refine ⟨fun hwithin => ?_, fun hlimited hbeyond => ?_⟩
      · have hretry := (retryAllows_iff limit (satInc sl.attempts)).mpr hwithin
        exact hslot.trans (Slot.outcome_retries sl limit hmark hretry)
      · have hretry : retryAllows limit (satInc sl.attempts) = false := by
          rw [← Bool.not_eq_true, retryAllows_iff]
          omega
        have hfailed := Slot.outcome_givenUp sl limit hsending hmark hretry
        have hslot' := hslot.trans hfailed
        exact ⟨congrArg Slot.state hslot', congrArg Slot.failReason hslot', congrArg Slot.attempts hslot',
          hcaused ((congrArg (fun x : Slot => x.state.ended) hfailed).trans rfl)⟩

end Sys2Proof.Machine
end

section
/-! The wire (R47 to R49, R54): a receiver that has read some bits of a message's paced part, bit after bit, up to the whole
message read back (O26). -/

namespace Sys2Proof.Machine

/-! ### Fields as numbers -/

@[simp] theorem levelBit_bitLevel (b : Bool) : levelBit (bitLevel b) = b := by cases b <;> rfl

theorem otherLevel_ne (b : Level) : otherLevel b ≠ b := by cases b <;> exact nofun

@[simp] theorem bitsOf_length (n v : Nat) : (bitsOf n v).length = n := by
  induction n with
  | zero => rfl
  | succ n ih => simp [bitsOf, ih]

/-- The number that a field's levels spell is its value. -/
theorem natOf_bitsOf (n v : Nat) : natOf (bitsOf n v) = v % 2 ^ n := by
  suffices h : ∀ acc, (bitsOf n v).foldl (fun a b => 2 * a + (levelBit b).toNat) acc = acc * 2 ^ n + v % 2 ^ n by
    simpa [natOf] using h 0
  induction n with
  | zero => intro acc; simp [bitsOf, Nat.mod_one]
  | succ n ih =>
    intro acc
    rw [bitsOf, List.foldl_cons, ih, levelBit_bitLevel, Nat.toNat_testBit, Nat.pow_succ, Nat.mod_mul]
    ring

/-- A stretch of a list with a known beginning. -/
theorem take_drop_append {α : Type} {xs before mid rest : List α} {i n : Nat} (h : xs = before ++ (mid ++ rest))
    (hi : before.length = i) (hn : mid.length = n) : (xs.drop i).take n = mid := by
  subst h hi hn
  simp

/-! ### The fields of a message as it is sent (R47) -/

theorem Kind.code_lt (k : Kind) : k.code < 3 := by cases k <;> decide

theorem kindOf_code (k : Kind) : kindOf k.code = some k := by cases k <;> rfl

theorem Message.wf_iff (m : Message) : m.wf = true ↔
    m.length ≤ 16 ∧ m.payload.length = if m.kind = .ask then 0 else m.length := by
  simp [Message.wf]

/-- The levels of the payload bytes. -/
def Message.payloadBits (m : Message) : List Level := m.payload.flatMap fun b => bitsOf 8 b.toNat

theorem flatMap_bitsOf_length (bs : List Byte) : (bs.flatMap fun b => bitsOf 8 b.toNat).length = 8 * bs.length := by
  induction bs with
  | nil => rfl
  | cons b bs ih => simp [ih]; omega

/-- The levels of a payload about one of its bytes. -/
theorem flatMap_bitsOf_split {bs : List Byte} {k : Nat} (h : k < bs.length) :
    (bs.flatMap fun b => bitsOf 8 b.toNat) = ((bs.take k).flatMap fun b => bitsOf 8 b.toNat)
      ++ (bitsOf 8 bs[k].toNat ++ (bs.drop (k + 1)).flatMap fun b => bitsOf 8 b.toNat) := by
  conv_lhs => rw [← List.take_append_drop k bs, List.drop_eq_getElem_cons h]
  rw [List.flatMap_append, List.flatMap_cons]

section
variable (m : Message)

theorem Message.coveredBits_length : m.coveredBits.length = 23 + 8 * m.payload.length := by
  simp only [Message.coveredBits, List.length_append, bitsOf_length, flatMap_bitsOf_length]

theorem Message.pacedPart_length : m.pacedPart.length = 40 + 8 * m.payload.length := by
  simp only [Message.pacedPart, List.length_cons, List.length_append, bitsOf_length, m.coveredBits_length]
  omega

/-- The paced part, field by field. -/
theorem Message.pacedPart_eq : m.pacedPart = [.dominant] ++ (bitsOf 16 m.tag.toNat ++ (bitsOf 2 m.kind.code
    ++ (bitsOf 5 m.length ++ (m.payloadBits ++ bitsOf 16 m.check.toNat)))) := by
  simp [Message.pacedPart, Message.coveredBits, Message.payloadBits]

/-- A field of the paced part, as a number. -/
def Message.sentField (first n : Nat) : Nat := natOf ((m.pacedPart.drop first).take n)

/-- A field that stands in the paced part is read as the number it was made of. -/
theorem Message.sentField_of_parts {m : Message} {before rest : List Level} {first n v : Nat}
    (h : m.pacedPart = before ++ (bitsOf n v ++ rest)) (hi : before.length = first) (hv : v < 2 ^ n) :
    m.sentField first n = v := by
  rw [Message.sentField, take_drop_append h hi (bitsOf_length _ _), natOf_bitsOf, Nat.mod_eq_of_lt hv]

theorem Message.sentField_tag : m.sentField 1 16 = m.tag.toNat :=
  Message.sentField_of_parts m.pacedPart_eq rfl m.tag.isLt

theorem Message.sentField_kind : m.sentField 17 2 = m.kind.code := by
  have hparts := m.pacedPart_eq
  rw [← List.append_assoc] at hparts
  exact Message.sentField_of_parts hparts (by simp) (Nat.lt_succ_of_lt m.kind.code_lt)

theorem Message.sentField_length (h : m.length ≤ 16) : m.sentField 19 5 = m.length := by
  have hparts := m.pacedPart_eq
  rw [← List.append_assoc, ← List.append_assoc] at hparts
  exact Message.sentField_of_parts hparts (by simp) (by omega)

theorem Message.sentField_check : m.sentField (24 + 8 * m.payload.length) 16 = m.check.toNat := by
  have hparts : m.pacedPart = (.dominant :: m.coveredBits) ++ (bitsOf 16 m.check.toNat ++ []) := by
    simp [Message.pacedPart]
  refine Message.sentField_of_parts hparts ?_ m.check.isLt
  simp only [List.length_cons, m.coveredBits_length]
  omega

theorem Message.sentField_byte {k : Nat} (h : k < m.payload.length) :
    m.sentField (24 + 8 * k) 8 = m.payload[k].toNat := by
  have hsplit := flatMap_bitsOf_split h
  change m.payloadBits = _ at hsplit
  have hparts := m.pacedPart_eq
  rw [hsplit] at hparts
  simp only [List.append_assoc] at hparts
  rw [← List.append_assoc, ← List.append_assoc, ← List.append_assoc, ← List.append_assoc] at hparts
  refine Message.sentField_of_parts hparts ?_ m.payload[k].isLt
  simp only [List.length_append, bitsOf_length, flatMap_bitsOf_length, List.length_take, List.length_singleton]
  omega

end

/-! ### A receiver part of the way (R48, R49) -/

/-- The buffer has read the first `n` bits of a message's paced part and `q` other bit-times: pace bits, confirm slot, end
mark. -/
structure Assembly.Reads (m : Message) (n q : Nat) (a : Assembly) : Prop where
  pos : a.pos = n + q
  bits : a.bits = m.pacedPart.take n
  check : a.check = (m.coveredBits.take (n - 1)).foldl checkStep 0xFFFF#16

theorem Assembly.reads_empty (m : Message) : Assembly.empty.Reads m 0 0 := ⟨rfl, rfl, rfl⟩

namespace Assembly.Reads

section
variable {m : Message} {n q : Nat} {a : Assembly} (h : a.Reads m n q)
include h

theorem bits_length (hn : n ≤ m.pacedPart.length) : a.bits.length = n := by
  rw [h.bits, List.length_take]
  exact Nat.min_eq_left hn

/-- A field that has been read is as it was sent. -/
theorem field {first len : Nat} (hlen : first + len ≤ n) : a.field first len = m.sentField first len := by
  rw [Assembly.field, Message.sentField, h.bits, List.drop_take, List.take_take,
    Nat.min_eq_left (by omega : len ≤ n - first)]

theorem kindField (hn : 19 ≤ n) : a.kindField = m.kind.code := (h.field hn).trans m.sentField_kind

theorem headRead (hn : n ≤ m.pacedPart.length) : a.headRead = decide (24 ≤ n) := by
  rw [Assembly.headRead, h.bits_length hn]

variable (hwf : m.wf = true)
include hwf

theorem lengthField (hn : 24 ≤ n) : a.lengthField = m.length :=
  (h.field hn).trans (m.sentField_length (m.wf_iff.mp hwf).1)

theorem payloadLength (hn : 24 ≤ n) : a.payloadLength = m.payload.length := by
  obtain ⟨-, hpayload⟩ := m.wf_iff.mp hwf
  rw [Assembly.payloadLength, h.kindField (by omega), h.lengthField hwf hn, hpayload]
  cases m.kind <;> rfl

/-- Where the bits of the paced part have not all been read, the message is not in its end. -/
theorem not_ended (hn : n ≤ m.pacedPart.length) (hpos : n + q < 45 + 9 * m.payload.length) :
    (a.headRead && decide (a.pacedLength ≤ a.pos)) = false := by
  rw [h.headRead hn]
  by_cases hhead : 24 ≤ n
  · have hlate : ¬ a.pacedLength ≤ a.pos := by
      rw [Assembly.pacedLength, h.payloadLength hwf hhead, h.pos]
      omega
    simp [hlate]
  · simp [hhead]

/-- The next bit-time is a message bit before its last, at a place of no pace bit. -/
theorem next_bit (hn : n < m.pacedPart.length) (hq : q = n / 8) (hpos : 0 < n) :
    a.next = if n ≤ 18 then .arbitration else .covered := by
  have hlength := m.pacedPart_length
  have hended := h.not_ended hwf hn.le (by omega)
  have hstart : ¬ a.pos = 0 := by rw [h.pos]; omega
  have hpace : ¬ a.pos % 9 = 8 := by rw [h.pos]; omega
  simp [Assembly.next, hstart, hended, hpace, h.bits_length hn.le]

/-- After each eighth bit comes a pace bit, which is the last one after the last bit. -/
theorem next_pace (hn : n ≤ m.pacedPart.length) (hq : n = 8 * (q + 1)) :
    a.next = .pace (decide (n = m.pacedPart.length)) := by
  have hlength := m.pacedPart_length
  have hended := h.not_ended hwf hn (by omega)
  have hstart : ¬ a.pos = 0 := by rw [h.pos]; omega
  have hpace : a.pos % 9 = 8 := by rw [h.pos]; omega
  have hlast : (a.headRead && a.pos + 1 == a.pacedLength) = decide (n = m.pacedPart.length) := by
    rw [h.headRead hn]
    by_cases hhead : 24 ≤ n
    · rw [Assembly.pacedLength, h.payloadLength hwf hhead, h.pos, decide_eq_true hhead, Bool.true_and, Bool.eq_iff_iff]
      simp only [beq_iff_eq, decide_eq_true_eq]
      omega
    · simp [hhead]
      omega
  simp [Assembly.next, hstart, hended, hpace, hlast]

/-- After the paced part come the confirm slot and seven bit-times of end mark. -/
theorem next_end (hn : n = m.pacedPart.length) (hq : 5 + m.payload.length ≤ q) :
    a.next = if q = 5 + m.payload.length then .confirm else .endMark (decide (q = 12 + m.payload.length)) := by
  have hlength := m.pacedPart_length
  have hhead : a.headRead = true := by
    rw [h.headRead hn.le]
    exact decide_eq_true (by omega)
  have hpaced : a.pacedLength = 45 + 9 * m.payload.length := by
    rw [Assembly.pacedLength, h.payloadLength hwf (by omega)]
  have hpos : a.pos = 40 + 8 * m.payload.length + q := by rw [h.pos, hn, hlength]
  have hstart : ¬ a.pos = 0 := by omega
  have hlate : a.pacedLength ≤ a.pos := by omega
  have hconfirm : a.pos = a.pacedLength ↔ q = 5 + m.payload.length := by omega
  have hlast : (a.pos == a.pacedLength + 7) = decide (q = 12 + m.payload.length) := by
    rw [Bool.eq_iff_iff]
    simp only [beq_iff_eq, decide_eq_true_eq]
    omega
  simp only [Assembly.next, hstart, hhead, hlate, hlast, hconfirm, if_false, decide_true, Bool.and_self, if_true]

/-- One more message bit read. -/
theorem push_bit (hn : n < m.pacedPart.length) (hq : q = n / 8) : (a.push m.pacedPart[n]).Reads m (n + 1) q
    ∧ (a.push m.pacedPart[n]).last = m.pacedPart[n] := by
  obtain rfl | hpos := n.eq_zero_or_pos
  · have hnext : a.next = .start := by
      rw [Assembly.next, if_pos]
      rw [h.pos, hq]
    subst hq
    rw [Assembly.push, hnext]
    exact ⟨⟨rfl, rfl, rfl⟩, rfl⟩
  · have hplace := h.next_bit hwf hn hq hpos
    have hpush : a.push m.pacedPart[n] = ⟨a.pos + 1, a.bits ++ [m.pacedPart[n]], m.pacedPart[n],
        if a.checked then checkStep a.check m.pacedPart[n] else a.check⟩ := by
      split at hplace <;> rw [Assembly.push, hplace]
    have hchecked : a.checked = decide (n < 24 + 8 * m.payload.length) := by
      rw [Assembly.checked, h.headRead hn.le, h.bits_length hn.le]
      by_cases hhead : 24 ≤ n
      · rw [h.payloadLength hwf hhead]
        simp [hhead]
      · simp [hhead]
        omega
    have hcovered := m.coveredBits_length
    rw [hpush]
    refine ⟨⟨?_, ?_, ?_⟩, rfl⟩
    · show a.pos + 1 = n + 1 + q
      rw [h.pos]
      omega
    · show a.bits ++ [m.pacedPart[n]] = m.pacedPart.take (n + 1)
      rw [h.bits, List.take_append_getElem hn]
    · show (if a.checked then checkStep a.check m.pacedPart[n] else a.check) = _
      rw [hchecked, h.check, Nat.add_sub_cancel]
      by_cases hin : n < 24 + 8 * m.payload.length
      · have hindex : n - 1 < m.coveredBits.length := by omega
        have hbit : m.pacedPart[n] = m.coveredBits[n - 1] := by
          simp only [Message.pacedPart]
          rw [List.getElem_cons, dif_neg (by omega), List.getElem_append_left hindex]
        have htake : m.coveredBits.take n = m.coveredBits.take (n - 1) ++ [m.coveredBits[n - 1]] := by
          rw [List.take_append_getElem hindex, Nat.sub_add_cancel hpos]
        rw [if_pos (decide_eq_true hin), hbit, htake, List.foldl_append]
        rfl
      · rw [if_neg (by simpa using hin), List.take_of_length_le (by omega), List.take_of_length_le (by omega)]

/-- A message bit as sent is never an error. -/
theorem verdict_bit (hn : n < m.pacedPart.length) (hq : q = n / 8) : a.verdict m.pacedPart[n] = .more := by
  obtain ⟨hpush, -⟩ := h.push_bit hwf hn hq
  obtain rfl | hpos := n.eq_zero_or_pos
  · have hnext : a.next = .start := by
      rw [Assembly.next, if_pos]
      rw [h.pos, hq]
    rw [Assembly.verdict, hnext]
  · have hplace := h.next_bit hwf hn hq hpos
    have hlength := h.bits_length hn.le
    obtain ⟨hfits, -⟩ := m.wf_iff.mp hwf
    by_cases harb : n ≤ 18
    · rw [if_pos harb] at hplace
      rw [Assembly.verdict, hplace]
      refine if_neg fun ⟨hlast, hkind⟩ => ?_
      have hvalid := m.kind.code_lt
      rw [hpush.kindField (by omega)] at hkind
      omega
    · rw [if_neg harb] at hplace
      rw [Assembly.verdict, hplace]
      refine if_neg fun ⟨hlast, hlong⟩ => ?_
      rw [hpush.lengthField hwf (by omega)] at hlong
      omega

/-- A pace bit as sent is right, and with the last one so is the check. -/
theorem verdict_pace (hn : n ≤ m.pacedPart.length) (hq : n = 8 * (q + 1)) :
    a.verdict (otherLevel a.last) = .more := by
  rw [Assembly.verdict, h.next_pace hwf hn hq]
  dsimp only
  rw [if_neg (otherLevel_ne a.last)]
  refine if_neg ?_
  by_cases hlast : n = m.pacedPart.length
  · have hlength := m.pacedPart_length
    have hcovered := m.coveredBits_length
    have hcheck : a.check = m.check := by
      rw [h.check, List.take_of_length_le (by omega)]
      rfl
    have hsent : a.field (24 + 8 * a.payloadLength) 16 = a.check.toNat := by
      rw [h.payloadLength hwf (by omega), h.field (by omega), m.sentField_check, hcheck]
    simp [hsent]
  · simp [hlast]

theorem push_pace (hn : n ≤ m.pacedPart.length) (hq : n = 8 * (q + 1)) (b : Level) : (a.push b).Reads m n (q + 1) := by
  rw [Assembly.push, h.next_pace hwf hn hq]
  exact ⟨congrArg (· + 1) h.pos, h.bits, h.check⟩

theorem push_end (hn : n = m.pacedPart.length) (hq : 5 + m.payload.length ≤ q) (b : Level) :
    (a.push b).Reads m n (q + 1) := by
  have hpush : a.push b = { a with pos := a.pos + 1, last := b } := by
    have hplace := h.next_end hwf hn hq
    split at hplace <;> rw [Assembly.push, hplace]
  rw [hpush]
  exact ⟨congrArg (· + 1) h.pos, h.bits, h.check⟩

end

end Assembly.Reads

/-! ### Reading on -/

theorem Assembly.read_more {a : Assembly} {b : Level} (h : a.verdict b = .more) (bs : List Level) :
    a.read (b :: bs) = (a.push b).read bs := by
  rw [Assembly.read, h]

/-- The rest of a paced part is read with no verdict, whatever follows. -/
theorem Assembly.Reads.read_paced {m : Message} (hwf : m.wf = true) (rest tail : List Level) {n : Nat} {a : Assembly}
    (h : a.Reads m n (n / 8)) (hrest : m.pacedPart.drop n = rest) (hn : n ≤ m.pacedPart.length) :
    ∃ a' : Assembly, a.read (paced (n % 8) rest ++ tail) = a'.read tail
      ∧ a'.Reads m m.pacedPart.length (5 + m.payload.length) := by
  have hlength := m.pacedPart_length
  induction rest generalizing n a with
  | nil =>
    have hend : n = m.pacedPart.length := Nat.le_antisymm hn (List.drop_eq_nil_iff.mp hrest)
    refine ⟨a, rfl, ?_⟩
    rw [hend, show m.pacedPart.length / 8 = 5 + m.payload.length by omega] at h
    exact h
  | cons b bs ih =>
    have hlt : n < m.pacedPart.length := by
      rw [← List.drop_eq_nil_iff.not.trans not_le, hrest]
      exact List.cons_ne_nil b bs
    rw [List.drop_eq_getElem_cons hlt] at hrest
    obtain ⟨hbit, hrest⟩ := List.cons.inj hrest
    obtain ⟨hread, hlast⟩ := h.push_bit hwf hlt rfl
    have hmore := h.verdict_bit hwf hlt rfl
    rw [hbit] at hread hlast hmore
    by_cases heighth : n % 8 = 7
    · have hq : n + 1 = 8 * (n / 8 + 1) := by omega
      have hpace := hread.verdict_pace hwf hlt hq
      have hpaced := hread.push_pace hwf hlt hq (otherLevel b)
      rw [hlast] at hpace
      rw [show n / 8 + 1 = (n + 1) / 8 by omega] at hpaced
      have hgoes := ih hpaced hrest hlt
      rw [show (n + 1) % 8 = 0 by omega] at hgoes
      rw [paced, if_pos heighth, List.cons_append, List.cons_append, Assembly.read_more hmore, Assembly.read_more hpace]
      exact hgoes
    · rw [show n / 8 = (n + 1) / 8 by omega] at hread
      have hgoes := ih hread hrest hlt
      rw [show (n + 1) % 8 = n % 8 + 1 by omega] at hgoes
      rw [paced, if_neg heighth, List.cons_append, Assembly.read_more hmore]
      exact hgoes

/-- The end mark is read to its last bit-time, where the message is found good (R54). -/
theorem Assembly.Reads.read_endMark {m : Message} (hwf : m.wf = true) (r : Nat) {q : Nat} {a : Assembly}
    (h : a.Reads m m.pacedPart.length q) (hq : q + r = 12 + m.payload.length) (hr : r ≤ 6) :
    ∃ a' : Assembly, a.read (List.replicate (r + 1) .recessive) = (.good, a', [])
      ∧ a'.Reads m m.pacedPart.length (13 + m.payload.length) := by
  induction r generalizing q a with
  | zero =>
    have hpush := h.push_end hwf rfl (by omega) .recessive
    have hgood : a.verdict .recessive = .good := by
      rw [Assembly.verdict, h.next_end hwf rfl (by omega), if_neg (by omega), decide_eq_true (by omega)]
      rfl
    refine ⟨a.push .recessive, ?_, ?_⟩
    · rw [List.replicate_one, Assembly.read, hgood]
    · rw [show q + 1 = 13 + m.payload.length by omega] at hpush
      exact hpush
  | succ r ih =>
    have hmore : a.verdict .recessive = .more := by
      rw [Assembly.verdict, h.next_end hwf rfl (by omega), if_neg (by omega), decide_eq_false (by omega)]
      rfl
    rw [List.replicate_succ, Assembly.read_more hmore]
    exact ih (h.push_end hwf rfl (by omega) .recessive) (by omega) (by omega)

/-- A buffer that has read the whole paced part holds the message. -/
theorem Assembly.Reads.message_eq {m : Message} (hwf : m.wf = true) {q : Nat} {a : Assembly}
    (h : a.Reads m m.pacedPart.length q) : a.message = m := by
  have hlength := m.pacedPart_length
  have htag : a.tagField = m.tag.toNat := (h.field (by omega)).trans m.sentField_tag
  have hpayload : a.payloadBytes = m.payload := by
    rw [Assembly.payloadBytes, h.payloadLength hwf (by omega)]
    refine List.ext_getElem (by simp) fun k hk _ => ?_
    have hin : k < m.payload.length := by simpa using hk
    rw [List.getElem_map, List.getElem_range, h.field (by omega), m.sentField_byte hin, BitVec.ofNat_toNat,
      BitVec.setWidth_eq]
  rw [Assembly.message, htag, h.kindField (by omega), h.lengthField hwf (by omega), hpayload, kindOf_code,
    BitVec.ofNat_toNat, BitVec.setWidth_eq]
  rfl

/-- Settles O26: the paced part, the confirm slot at whatever level, and the end mark. -/
theorem sentMessageIsReadBack : Obligations.SentMessageIsReadBack := by
  intro m c hwf
  obtain ⟨a, hpaced, hread⟩ := (Assembly.reads_empty m).read_paced hwf m.pacedPart (c :: List.replicate 7 .recessive)
    rfl (Nat.zero_le _)
  have hconfirm : a.verdict c = .more := by
    rw [Assembly.verdict, hread.next_end hwf rfl (Nat.le_refl _), if_pos rfl]
  obtain ⟨a', hend, hwhole⟩ := (hread.push_end hwf rfl (Nat.le_refl _) c).read_endMark hwf 6 (by omega) (Nat.le_refl _)
  refine ⟨a', ?_, hwhole.message_eq hwf⟩
  calc Assembly.empty.read (paced 0 m.pacedPart ++ c :: List.replicate 7 .recessive)
      = a.read (c :: List.replicate 7 .recessive) := hpaced
    _ = (a.push c).read (List.replicate 7 .recessive) := Assembly.read_more hconfirm _
    _ = (.good, a', []) := hend

end Sys2Proof.Machine
end

section
/-! The events of a deck line that route a message: what routing leaves of the link that offers (R87 to R93), the errors
(O22), a message received good (O24), MIRROR (O25). -/

namespace Sys2Proof.Machine

/-! ### What a drive command changes (R126 to R132) -/

/-- Only the drive channels, their protection and the guards change, and causes are raised. -/
def DriveOnly (s t : State) : Prop :=
  statusOnlyRaised s t ∧ ∃ chans prots guards status,
    t = { s with chans := chans, prots := prots, guards := guards, status := status }

namespace DriveOnly

theorem refl (s : State) : DriveOnly s s := ⟨.refl s, s.chans, s.prots, s.guards, s.status, rfl⟩

theorem trans {s t u : State} (h : DriveOnly s t) (k : DriveOnly t u) : DriveOnly s u := by
  obtain ⟨hraised, _, _, _, _, rfl⟩ := h
  obtain ⟨kraised, c, p, g, st, rfl⟩ := k
  exact ⟨hraised.trans kraised, c, p, g, st, rfl⟩

/-- The same, the later part first. -/
theorem after {s t u : State} (k : DriveOnly t u) (h : DriveOnly s t) : DriveOnly s u := h.trans k

/-- An update of channels and protection. -/
theorem of_update (s : State) (chans : Vector Channel 3) (prots : Vector Protection 3) (guards : Vector (Option Bool) 8) :
    DriveOnly s { s with chans := chans, prots := prots, guards := guards } :=
  ⟨.of_same rfl, chans, prots, guards, s.status, rfl⟩

end DriveOnly

theorem State.raiseIf_driveOnly (s : State) (b : Bool) (c : Cause) : DriveOnly s (s.raiseIf b c) :=
  ⟨s.raiseIf_raised b c, _, _, _, _, rfl⟩

theorem State.modChan_driveOnly (s : State) (c : ChanId) (f : Channel → Channel) : DriveOnly s (s.modChan c f) :=
  .of_update s _ _ _
theorem State.modProt_driveOnly (s : State) (c : ChanId) (f : Protection → Protection) : DriveOnly s (s.modProt c f) :=
  .of_update s _ _ _

theorem State.reevaluate_driveOnly (s : State) : DriveOnly s s.reevaluate :=
  (State.raiseIf_driveOnly _ _ _).after (.of_update s _ _ _)

theorem State.stopMotion_driveOnly (s : State) (c : ChanId) (r : StopReason) : DriveOnly s (s.stopMotion c r) := by
  unfold State.stopMotion
  split
  · exact (State.reevaluate_driveOnly _).after ((State.raiseIf_driveOnly _ _ _).after (.of_update s _ _ _))
  · exact .refl s

theorem State.toRest_driveOnly (s : State) (c : ChanId) (st : ChanState) : DriveOnly s (s.toRest c st) :=
  (State.reevaluate_driveOnly _).after (.of_update s _ _ _)

theorem State.startMotion_driveOnly (s : State) (c : ChanId) (src : CmdSource) (k : MotionCode) (d : Dir)
    (x : DriveCommand) : DriveOnly s (s.startMotion c src k d x) := by
  unfold State.startMotion
  split
  · exact .refl s
  · exact (State.reevaluate_driveOnly _).after (.of_update s _ _ _)

theorem State.atTarget_driveOnly (s : State) (c : ChanId) : DriveOnly s (s.atTarget c) := by
  unfold State.atTarget
  split
  · exact s.stopMotion_driveOnly c _
  · exact s.modChan_driveOnly c _

theorem State.applyMotion_driveOnly (s : State) (c : ChanId) (src : CmdSource) (k : MotionCode) (x : DriveCommand) :
    DriveOnly s (s.applyMotion c src k x) := by
  have hwatch : DriveOnly s (s.watchOffByMotion c) := s.modProt_driveOnly c _
  unfold State.applyMotion
  dsimp only
  split
  · exact hwatch.trans (State.atTarget_driveOnly _ c)
  · split
    · exact hwatch.trans (.of_update _ _ _ _)
    · exact hwatch.trans (State.startMotion_driveOnly _ c src k _ x)

theorem State.applyCommand_driveOnly (s : State) (c : ChanId) (src : CmdSource) (x : DriveCommand) :
    DriveOnly s (s.applyCommand c src x) := by
  unfold State.applyCommand
  cases cmdOf x.code with
  | none => exact .refl s
  | some code =>
    cases code with
    | enable => exact s.toRest_driveOnly c _
    | disable => exact (s.modChan_driveOnly c _).trans (State.toRest_driveOnly _ c _)
    | moveOut | moveIn | goto => exact s.applyMotion_driveOnly c src _ x
    | stop => exact s.stopMotion_driveOnly c _
    | clearTrip => exact (s.modProt_driveOnly c _).trans (State.toRest_driveOnly _ c _)
    | watchOn | watchOff => exact s.modProt_driveOnly c _

theorem State.deckCommand_driveOnly (s : State) (c : ChanId) (l : LinkId) (m : Message) :
    DriveOnly s (s.deckCommand c l m) := by
  unfold State.deckCommand
  split
  · exact s.modChan_driveOnly c _
  · unfold State.command
    split
    · exact s.modChan_driveOnly c _
    · exact s.applyCommand_driveOnly c _ _

/-! ### What ring admission changes (R95, R96) -/

/-- Only the Receive Routers, the rings and the memory path change, and causes are raised. -/
def RingOnly (s t : State) : Prop :=
  statusOnlyRaised s t ∧ ∃ routers writer path status,
    t = { s with routers := routers, ringWriter := writer, path := path, status := status }

namespace RingOnly

theorem raised {s t : State} (h : RingOnly s t) : statusOnlyRaised s t := h.1

theorem refl (s : State) : RingOnly s s := ⟨.refl s, s.routers, s.ringWriter, s.path, s.status, rfl⟩

theorem trans {s t u : State} (h : RingOnly s t) (k : RingOnly t u) : RingOnly s u := by
  obtain ⟨hraised, _, _, _, _, rfl⟩ := h
  obtain ⟨kraised, r, w, p, st, rfl⟩ := k
  exact ⟨hraised.trans kraised, r, w, p, st, rfl⟩

/-- The same, the later part first. -/
theorem after {s t u : State} (k : RingOnly t u) (h : RingOnly s t) : RingOnly s u := h.trans k

/-- An update of routers and rings. -/
theorem of_update (s : State) (routers : Vector Router 2) (writer : RingWriter) (path : Path) :
    RingOnly s { s with routers := routers, ringWriter := writer, path := path } :=
  ⟨.of_same rfl, routers, writer, path, s.status, rfl⟩

theorem links {s t : State} (h : RingOnly s t) : t.links = s.links := by
  obtain ⟨-, _, _, _, _, rfl⟩ := h
  rfl

theorem senders {s t : State} (h : RingOnly s t) : t.senders = s.senders := by
  obtain ⟨-, _, _, _, _, rfl⟩ := h
  rfl

theorem poll {s t : State} (h : RingOnly s t) : t.poll = s.poll := by
  obtain ⟨-, _, _, _, _, rfl⟩ := h
  rfl

theorem sameDrive {s t : State} (h : RingOnly s t) : sameDrive s t := by
  obtain ⟨-, _, _, _, _, rfl⟩ := h
  exact ⟨rfl, rfl, rfl, rfl⟩

theorem samePlan {s t : State} (h : RingOnly s t) : samePlan s t := by
  obtain ⟨-, _, _, _, _, rfl⟩ := h
  exact ⟨rfl, rfl, rfl⟩

theorem repeater {s t : State} (h : RingOnly s t) : t.repeater = s.repeater := by
  obtain ⟨-, _, _, _, _, rfl⟩ := h
  rfl

end RingOnly

theorem State.raise_ringOnly (s : State) (c : Cause) : RingOnly s (s.raise c) := ⟨s.raise_raised c, _, _, _, _, rfl⟩

theorem State.submitEntry_ringOnly (s : State) (h : Handoff) (p : Purpose) (o : Nat) (b : List WriteBeat) :
    RingOnly s (s.submitEntry h p o b) := by
  unfold State.submitEntry
  split
  · exact .refl s
  · exact .of_update s _ _ _

theorem State.writerTake_ringOnly (s : State) : RingOnly s s.writerTake := by
  unfold State.writerTake
  split
  · exact .refl s
  · exact (State.submitEntry_ringOnly _ _ _ _ _).after (.of_update s _ _ _)

theorem State.intoRing_ringOnly (s : State) (l : LinkId) (r : RingId) (k : Nat) (m : Message) (d : Damage) (t : Stamp) :
    RingOnly s (s.intoRing l r k m d t) := by
  unfold State.intoRing
  split
  · exact (State.raise_ringOnly _ _).after (.of_update s _ _ _)
  · split
    · exact (State.raise_ringOnly _ _).after (.of_update s _ _ _)
    · exact (State.writerTake_ringOnly _).after (.of_update s _ _ _)

theorem State.sift_ringOnly (s : State) (l : LinkId) (m : Message) (t : Stamp) : RingOnly s (s.sift l m t) := by
  unfold State.sift
  split
  · exact s.intoRing_ringOnly l _ _ m _ t
  · exact .refl s
  · exact .of_update s _ _ _

theorem State.routeDamaged_ringOnly (s : State) (l : LinkId) (m : Message) (t : Stamp) :
    RingOnly s (s.routeDamaged l m t) := by
  unfold State.routeDamaged
  split
  · split
    · exact s.intoRing_ringOnly l _ _ m _ t
    · exact .refl s
  · exact .refl s
  · exact .refl s

/-! ### What routing leaves of the link that offers (R87) -/

/-- From `s` to `t` the Repeater, the emergency stop line, link `l` and its SENT slots are as they were, and causes are
raised. -/
structure Routes (l : LinkId) (s t : State) : Prop where
  raised : statusOnlyRaised s t
  repeater : t.repeater = s.repeater
  esl : t.esl = s.esl
  link : t.link l = s.link l
  sentSlot : ∀ i, (s.slot l i).state = .sent → t.slot l i = s.slot l i

namespace Routes

theorem refl (l : LinkId) (s : State) : Routes l s s := ⟨.refl s, rfl, rfl, rfl, fun _ _ => rfl⟩

theorem trans {l : LinkId} {s t u : State} (h : Routes l s t) (k : Routes l t u) : Routes l s u where
  raised := h.raised.trans k.raised
  repeater := k.repeater.trans h.repeater
  esl := k.esl.trans h.esl
  link := k.link.trans h.link
  sentSlot i hi := (k.sentSlot i ((congrArg Slot.state (h.sentSlot i hi)).trans hi)).trans (h.sentSlot i hi)

/-- The same, the later part first. -/
theorem after {l : LinkId} {s t u : State} (k : Routes l t u) (h : Routes l s t) : Routes l s u := h.trans k

end Routes

theorem DriveOnly.routes {s t : State} (h : DriveOnly s t) (l : LinkId) : Routes l s t := by
  obtain ⟨hraised, _, _, _, _, rfl⟩ := h
  exact ⟨hraised, rfl, rfl, rfl, fun _ _ => rfl⟩

theorem RingOnly.routes {s t : State} (h : RingOnly s t) (l : LinkId) : Routes l s t := by
  obtain ⟨hraised, _, _, _, _, rfl⟩ := h
  exact ⟨hraised, rfl, rfl, rfl, fun _ _ => rfl⟩

theorem State.storeValue_routes (s : State) (l : LinkId) (p : PollId) (m : Message) (t : Stamp) :
    Routes l s (s.storeValue p m t) :=
  ((State.reevaluate_driveOnly _).routes l).after ⟨.of_same rfl, rfl, rfl, rfl, fun _ _ => rfl⟩

theorem State.dropAsk_routes (s : State) (l : LinkId) (p : PollId) : Routes l s (s.dropAsk l p) := by
  refine ⟨.of_same rfl, rfl, rfl, rfl, fun i _ => ?_⟩
  have hsender : (s.dropAsk l p).sender l = (s.sender l).dropAsk p := look_update_self _ _ _
  rw [State.slot, hsender]
  rfl

theorem State.pollTake_routes {s : State} {l : LinkId} (h : (s.link l).canTake = false) : Routes l s (s.pollTake l) := by
  obtain ⟨hlink, hslots⟩ := State.pollTake_link h
  exact ⟨s.pollTake_raised l, rfl, rfl, hlink, fun i _ => congrArg (look · i) hslots⟩

theorem State.storeReply_routes {s : State} {l : LinkId} (h : (s.link l).canTake = false) (p : PollId) (m : Message)
    (t : Stamp) : Routes l s (s.storeReply l p m t) := by
  unfold State.storeReply
  split
  · have hstored := (s.dropAsk_routes l p).trans (State.storeValue_routes _ l p m t)
    refine hstored.trans (State.pollTake_routes ?_)
    rw [hstored.link]
    exact h
  · exact s.storeValue_routes l p m t

/-- The slot that consumes an ASK is ARMED (R81). -/
theorem SendCtl.armed_of_armedFor {c : SendCtl} {t : Tag} {i : SlotId} (h : c.armedFor t = some i) :
    (look c.slots i).state = .armed := by
  have hfound := List.find?_some h
  simp only [Bool.and_eq_true, beq_iff_eq] at hfound
  obtain ⟨harmed, -⟩ := hfound
  exact harmed

theorem SendCtl.startAnswer_slots (c : SendCtl) {i j : SlotId} (h : i ≠ j) :
    look (c.startAnswer i).slots j = look c.slots j := look_update_of_ne _ _ h

theorem State.submitFetch_routes (s : State) (l m : LinkId) (i : SlotId) (n : Nat) : Routes m s (s.submitFetch l i n) := by
  unfold State.submitFetch
  split
  · exact .refl m s
  · exact ⟨.of_same rfl, rfl, rfl, rfl, fun _ _ => rfl⟩

theorem State.consumeAsk_routes (s : State) (l : LinkId) (t : Tag) : Routes l s (s.consumeAsk l t) := by
  unfold State.consumeAsk
  split
  next i harmed =>
    refine Routes.trans (t := s.modSender l fun c => c.startAnswer i)
      ⟨.of_same rfl, rfl, rfl, rfl, fun j hsent => ?_⟩ (State.submitFetch_routes _ l l i _)
    have hne : i ≠ j := by
      rintro rfl
      cases (SendCtl.armed_of_armedFor harmed).symm.trans hsent
    rw [State.slot, State.sender_modSender_self]
    exact SendCtl.startAnswer_slots _ hne
  · refine ⟨.of_same rfl, rfl, rfl, rfl, fun j _ => ?_⟩
    have hsender := congrArg SendCtl.slots
      (s.sender_modSender_self l fun c => { c with mergedAsks := satInc (s.sender l).mergedAsks })
    exact congrArg (look · j) hsender

/-- Routing leaves a link that may not take the head, whatever becomes of the message (R87). -/
theorem State.routeGood_routes {s : State} {l : LinkId} (h : (s.link l).canTake = false) (m : Message) (t : Stamp) :
    Routes l s (s.routeGood l m t) := by
  have hsift (u : State) : Routes l u (u.sift l m t) := (u.sift_ringOnly l m t).routes l
  unfold State.routeGood
  cases m.kind with
  | reply =>
    dsimp only
    split
    · exact State.storeReply_routes h _ m t
    · exact hsift s
  | ask =>
    dsimp only
    split
    · exact s.consumeAsk_routes l _
    · exact hsift s
  | data =>
    dsimp only
    split
    · exact (s.deckCommand_driveOnly _ l m).routes l
    · refine (hsift _).after ?_
      unfold State.hear
      split
      · exact .refl l s
      · exact s.storeValue_routes l _ m t

/-! ### The errors of a link in RUN (R56) -/

theorem State.endAtError_raised (s : State) (l : LinkId) (mayMark : Bool) :
    statusOnlyRaised s (s.endAtError l mayMark) := by
  unfold State.endAtError
  split
  · exact .of_same rfl
  · exact s.endMessage_raised l .error

section
variable {s : State} {l : LinkId} (hmode : (s.link l).mode = .run) (hpending : (s.link l).pendingMode = none)
include hmode

theorem State.endAtError_marks (h : (s.link l).health = .active) : s.endAtError l true = s.modLink l LinkCtl.mark := by
  refine if_pos ?_
  simp [LinkCtl.marks, hmode, h]

include hpending

/-- An ACTIVE link begins an error mark, any other ends the message. -/
theorem State.endAtError_link : (s.endAtError l true).link l =
    if (s.link l).health = .active then (s.link l).mark else (s.link l).ended := by
  split
  next hactive =>
    rw [State.endAtError_marks hmode hactive]
    exact s.link_modLink_self l _
  next hactive =>
    have hends : s.endAtError l true = s.endMessage l .error := by
      refine if_neg ?_
      simp [LinkCtl.marks, hactive]
    rw [hends]
    exact State.endMessage_link hmode hpending .error

end

/-- What an error of `n` points leaves of the link `k` in RUN that detects it, and of its Send Controller `c`. -/
def ErrorEnds (l : LinkId) (k : LinkCtl) (c : SendCtl) (n : Nat) (t : State) : Prop :=
  (t.link l).score.toNat = (if k.score.toNat + n ≤ 255 then k.score.toNat + n else 255)
    ∧ (t.link l).health = healthOf (t.link l).score
    ∧ (healthOf (t.link l).score ≠ k.health → t.caused .link = true)
    ∧ ((t.link l).health = .active → (t.link l).phase = .marking ∧ (t.link l).markBits = 0
        ∧ (t.link l).item = k.item.map (fun it => { it with sending := false }) ∧ t.sender l = c)
    ∧ ((t.link l).health ≠ .active → (t.link l).phase = .gapWait ∧ (t.link l).item = none)

theorem addScore_toNat (score : BitVec 8) (n : Nat) :
    (addScore score n).toNat = if score.toNat + n ≤ 255 then score.toNat + n else 255 := by
  unfold addScore
  split
  · rw [BitVec.toNat_ofNat]
    omega
  · rfl

/-- A link in RUN that is not SILENT and whose mode waits for nothing detects an error: from the state after its count and
its score on, with whatever leaves the link and the Send Controller in between. -/
theorem State.error_ends {s b : State} {l : LinkId} {c : LinkCounter} {n : Nat} (hmode : (s.link l).mode = .run)
    (hhealth : (s.link l).health ≠ .silent) (hpending : (s.link l).pendingMode = none) (hc : c ≠ .mergedAsks)
    (hlink : b.link l = (s.scored l c fun v => addScore v n).link l)
    (hsender : b.sender l = (s.scored l c fun v => addScore v n).sender l)
    (hraised : statusOnlyRaised (s.scored l c fun v => addScore v n) b) :
    ErrorEnds l (s.link l) (s.sender l) n (b.endAtError l true)
      ∧ ((b.endAtError l true).link l).counter c = ((s.link l).counts c).counter c := by
  have hlink' := hlink.trans (s.scored_link l c _)
  have hscore := congrArg LinkCtl.score hlink'
  have hhealth' := congrArg LinkCtl.health hlink'
  rw [LinkCtl.scored_score, if_pos ⟨hmode, hhealth⟩] at hscore
  rw [LinkCtl.scored_health, if_pos ⟨hmode, hhealth⟩] at hhealth'
  have hbmode : (b.link l).mode = .run := by rw [hlink', LinkCtl.scored_mode, hmode]
  have hbpending : (b.link l).pendingMode = none := by rw [hlink', LinkCtl.scored_pendingMode, hpending]
  have hend := State.endAtError_link hbmode hbpending
  have hendScore : ((b.endAtError l true).link l).score = (b.link l).score := by
    rw [hend]
    split <;> rfl
  have hendHealth : ((b.endAtError l true).link l).health = (b.link l).health := by
    rw [hend]
    split <;> rfl
  have hcounter : ((b.endAtError l true).link l).counter c = (b.link l).counter c := by
    rw [hend]
    split <;> cases c <;> rfl
  refine ⟨⟨?_, ?_, fun hchanged => ?_, fun hactive => ?_, fun hactive => ?_⟩, ?_⟩
  · rw [hendScore, hscore, addScore_toNat]
  · rw [hendScore, hendHealth, hscore, hhealth']
  · have hscored : (s.scored l c fun v => addScore v n).caused .link = true := by
      refine s.scored_caused l c _ ?_
      rw [← hlink, hhealth', ← hscore, ← hendScore]
      exact hchanged
    exact (hraised.trans (b.endAtError_raised l true)).caused hscored
  · rw [hendHealth] at hactive
    rw [State.endAtError_marks hbmode hactive, State.link_modLink_self]
    have hitem : (b.link l).item = (s.link l).item := by rw [hlink', LinkCtl.scored_item]
    refine ⟨rfl, rfl, (congrArg (Option.map fun it : WireItem => { it with sending := false }) hitem :), ?_⟩
    exact hsender.trans (congrArg (look · l) (s.scored_senders l c _ hc))
  · rw [hendHealth] at hactive
    rw [hend, if_neg hactive]
    exact ⟨rfl, rfl⟩
  · rw [hcounter, hlink', LinkCtl.scored_counter]

/-! ### A damaged message offered (R93) -/

/-- The state with other links and another Status Unit. -/
def State.onLine (s : State) (links : Vector LinkCtl 2) (status : StatusUnit) : State :=
  { s with links := links, status := status }

/-- The state whose Ring Writer has taken a message, before its body write is submitted (R96). -/
def State.writes (s : State) (h : Handoff) : State :=
  { s with
    routers := update s.routers h.link fun r => { r with handoff := r.handoff.tail }
    ringWriter := { s.ringWriter with writing := some ⟨h, false⟩, lastServed := h.link } }

theorem State.writerTake_none {s : State} (h : s.writerTakes = none) : s.writerTake = s := by
  rw [State.writerTake, h]

theorem State.writerTake_some {s : State} {h : Handoff} (ht : s.writerTakes = some h) :
    s.writerTake = (s.writes h).submitEntry h .ringBody 4 (fullBeats 7 h.body) := by
  rw [State.writerTake, ht]
  rfl

/-- The state with a message admitted to a ring, before the Ring Writer looks for one (R95). -/
def State.admitted (s : State) (l : LinkId) (r : RingId) (k : Nat) (m : Message) (d : Damage) (t : Stamp) : State :=
  (s.modRing r Ring.reserve).modRouter l fun q =>
    { q with handoff := q.handoff ++ [⟨l, r, (s.ring r).head, k, m, d, t⟩] }

theorem State.submitEntry_status (s : State) (h : Handoff) (p : Purpose) (off : Nat) (beats : List WriteBeat) :
    (s.submitEntry h p off beats).status = s.status := by
  unfold State.submitEntry
  split <;> rfl

theorem State.writerTake_status (s : State) : s.writerTake.status = s.status := by
  cases h : s.writerTakes with
  | none => rw [State.writerTake_none h]
  | some x =>
    rw [State.writerTake_some h]
    exact (s.writes x).submitEntry_status _ _ _ _

section
variable (s : State) (links : Vector LinkCtl 2) (status : StatusUnit)

theorem State.submitEntry_onLine (h : Handoff) (p : Purpose) (off : Nat) (beats : List WriteBeat) :
    (s.onLine links status).submitEntry h p off beats = (s.submitEntry h p off beats).onLine links status := by
  have hplan : (s.onLine links status).plan = s.plan := rfl
  unfold State.submitEntry
  rw [hplan]
  split <;> rfl

theorem State.writerTake_onLine : (s.onLine links status).writerTake = s.writerTake.onLine links status := by
  have htakes : (s.onLine links status).writerTakes = s.writerTakes := rfl
  cases h : s.writerTakes with
  | none => rw [State.writerTake_none h, State.writerTake_none (htakes.trans h)]
  | some x =>
    rw [State.writerTake_some h, State.writerTake_some (htakes.trans h)]
    exact (s.writes x).submitEntry_onLine links status x _ _ _

/-- Ring admission does not look at the links or the causes, and raises OVERFLOW by what it finds. -/
theorem State.intoRing_onLine (l : LinkId) (r : RingId) (k : Nat) (m : Message) (d : Damage) (t : Stamp) :
    ∃ status', (s.onLine links status).intoRing l r k m d t = (s.intoRing l r k m d t).onLine links status'
      ∧ ((s.intoRing l r k m d t).caused .overflow = true → s.caused .overflow = true
        ∨ ((s.onLine links status).intoRing l r k m d t).caused .overflow = true) := by
  have hrouter : (s.onLine links status).router l = s.router l := rfl
  have hring : (s.onLine links status).ring r = s.ring r := rfl
  unfold State.intoRing
  rw [hrouter, hring]
  split
  · exact ⟨_, rfl, fun _ => .inr (State.raise_caused _ _)⟩
  · split
    · exact ⟨_, rfl, fun _ => .inr (State.raise_caused _ _)⟩
    · refine ⟨status, (s.admitted l r k m d t).writerTake_onLine links status, fun hcaused => .inl ?_⟩
      have hstatus : ((s.admitted l r k m d t).writerTake).status = s.status := State.writerTake_status _
      exact (congrArg (fun u : StatusUnit => u.causes &&& Cause.overflow.bit != 0) hstatus).symm.trans hcaused

/-- So does the offer of a damaged message (R93). -/
theorem State.routeDamaged_onLine (l : LinkId) (m : Message) (t : Stamp) :
    ∃ status', (s.onLine links status).routeDamaged l m t = (s.routeDamaged l m t).onLine links status'
      ∧ ((s.routeDamaged l m t).caused .overflow = true → s.caused .overflow = true
        ∨ ((s.onLine links status).routeDamaged l m t).caused .overflow = true) := by
  have hsieve : (s.onLine links status).sieveFor l m = s.sieveFor l m := rfl
  have hsettings (r : RingId) : (s.onLine links status).ringSettings r = s.ringSettings r := rfl
  unfold State.routeDamaged
  rw [hsieve]
  split
  · rw [hsettings]
    split
    · exact s.intoRing_onLine links status l _ _ m _ t
    · exact ⟨status, rfl, .inl⟩
  · exact ⟨status, rfl, .inl⟩
  · exact ⟨status, rfl, .inl⟩

end

/-- Counting an error and moving the score changes the links and the Status Unit alone. -/
theorem State.checkScored_onLine (s : State) (l : LinkId) (levels : List Level) (f : BitVec 8 → BitVec 8) :
    ∃ links status, (s.heard l levels).scored l .check f = s.onLine links status := ⟨_, _, rfl⟩

/-- What an event submits joins by the memory path alone (R18). -/
theorem State.commit_path_congr {s t : State} (h : s.path = t.path) : s.commit.path = t.commit.path :=
  congrArg (fun p : Path => (joinOrder p.staged).foldl Path.join { p with staged := [] }) h

/-! ### The four errors (R55, R56) -/

/-- A line command as a whole event, where its effect may submit. -/
theorem State.wireEvent_commit {s : State} {l : LinkId} {levels : List Level} {e : WireEvent} (hrun : s.running = true)
    (h : s.brings l levels e = true) (f : State → State) :
    (s.event fun t => t.wire l levels e f) = (f (s.heard l levels)).commit := by
  rw [s.event_of_running _ (State.running_inReset hrun), State.wire_of_brings h]

section
variable {s : State} {l : LinkId} {levels : List Level} (hrun : s.running = true)
include hrun

theorem exec_shapeError (hb : s.brings l levels .shape = true) :
    exec (.shapeError l levels) s = .next ((s.heard l levels).shapeError l) :=
  congrArg Host.Outcome.next (State.wireEvent_eq hrun hb fun u => u.shapeError_linkSide l)

theorem exec_noConfirmError (hb : s.brings l levels .noConfirm = true) :
    exec (.noConfirmError l levels) s = .next ((s.heard l levels).sendingError l .noConfirm) :=
  congrArg Host.Outcome.next (State.wireEvent_eq hrun hb fun u => u.sendingError_linkSide l .noConfirm nofun nofun)

theorem exec_clashError (hb : s.brings l levels .clash = true) :
    exec (.clashError l levels) s = .next ((s.heard l levels).sendingError l .clash) :=
  congrArg Host.Outcome.next (State.wireEvent_eq hrun hb fun u => u.sendingError_linkSide l .clash nofun nofun)

theorem exec_checkError (hb : s.brings l levels .check = true) :
    exec (.checkError l levels) s = .next ((s.heard l levels).checkError l).commit :=
  congrArg Host.Outcome.next (State.wireEvent_commit hrun hb fun u => u.checkError l)

theorem exec_messageReceived (hb : s.brings l levels .receivedOk = true) :
    exec (.messageReceived l levels) s = .next ((s.heard l levels).messageReceived l).commit :=
  congrArg Host.Outcome.next (State.wireEvent_commit hrun hb fun u => u.messageReceived l)

end

section
variable {s : State} {l : LinkId} {levels : List Level} {e : WireEvent} (hb : s.brings l levels e = true)
  (hmode : (s.link l).mode = .run) (hhealth : (s.link l).health ≠ .silent) (hpending : (s.link l).pendingMode = none)
include hb hmode hhealth hpending

/-- An error counted and scored on the link as the levels leave it, with what `b` then adds beside the link. -/
theorem State.heard_error_ends {b : State} {c : LinkCounter} {n : Nat} (hc : c ≠ .mergedAsks)
    (hlink : b.link l = ((s.heard l levels).scored l c fun v => addScore v n).link l)
    (hsender : b.sender l = ((s.heard l levels).scored l c fun v => addScore v n).sender l)
    (hraised : statusOnlyRaised ((s.heard l levels).scored l c fun v => addScore v n) b) :
    ErrorEnds l (s.after l levels) (s.sender l) n (b.endAtError l true)
      ∧ ((b.endAtError l true).link l).counter c = ((s.after l levels).counts c).counter c := by
  have h := State.error_ends (s := s.heard l levels) (l := l) (c := c) (n := n) (b := b)
  rw [State.heard_link, State.after_mode hb, State.after_health hb, State.after_pendingMode hb] at h
  exact h hmode hhealth hpending hc hlink hsender hraised

/-- An error that routes nothing. -/
theorem State.plainError_ends {c : LinkCounter} (sending : Bool) (hc : c ≠ .mergedAsks) (hc' : c ≠ .unrouted)
    (hc'' : c ≠ .overruns) :
    ∃ t, ((s.heard l levels).countError l c sending).endAtError l true = t ∧ onlyLink s t l
      ∧ ErrorEnds l (s.after l levels) (s.sender l) (errorWeight sending) t
      ∧ (t.link l).counter c = ((s.after l levels).counts c).counter c := by
  let t := ((s.heard l levels).countError l c sending).endAtError l true
  have hside : LinkSide l s t := (s.heard_linkSide l levels).trans
    ((State.countError_linkSide _ l c sending hc' hc'').trans (State.endAtError_linkSide _ l true))
  have hraised : statusOnlyRaised s t :=
    (State.endAtError_raised _ l true).after (State.heardScored_raised c _)
  exact ⟨t, rfl, hside.onlyLink hraised, State.heard_error_ends hb hmode hhealth hpending hc rfl rfl (.refl _)⟩

end

/-- What an offer to the rings leaves, between two operations of one link. -/
theorem besides_of_ringOnly {l : LinkId} {s a b t : State} (hbefore : LinkSide l s a) (hring : RingOnly a b)
    (hafter : LinkSide l b t) :
    sameDrive s t ∧ samePlan s t ∧ t.repeater = s.repeater ∧ otherLinksSame s t l := by
  obtain ⟨hchans, hprots, hguards, hesl⟩ := hring.sameDrive
  obtain ⟨hloader, hsel, hreset⟩ := hring.samePlan
  refine ⟨⟨hafter.chans.trans (hchans.trans hbefore.chans), hafter.prots.trans (hprots.trans hbefore.prots),
      hafter.guards.trans (hguards.trans hbefore.guards), hafter.esl.trans (hesl.trans hbefore.esl)⟩,
    ⟨hafter.loader.trans (hloader.trans hbefore.loader), hafter.planSel.trans (hsel.trans hbefore.planSel),
      hafter.inReset.trans (hreset.trans hbefore.inReset)⟩,
    hafter.repeater.trans (hring.repeater.trans hbefore.repeater), fun m hm => ?_⟩
  obtain ⟨hlink, hsender, hqueue⟩ := hbefore.others m hm
  obtain ⟨hlink', hsender', hqueue'⟩ := hafter.others m hm
  exact ⟨hlink'.trans ((congrArg (look · m) hring.links).trans hlink),
    hsender'.trans ((congrArg (look · m) hring.senders).trans hsender),
    hqueue'.trans ((congrArg (fun p : PollUnit => look p.queues m) hring.poll).trans hqueue)⟩

/-- CHECK: the offer of the damaged message stands between the score and the mark, and what it does to the rings, the routers
and the memory path is what it would do to the state before the levels. -/
theorem State.checkError_ends {s : State} {l : LinkId} {levels : List Level} {e : WireEvent}
    (hb : s.brings l levels e = true) (hmode : (s.link l).mode = .run) (hhealth : (s.link l).health ≠ .silent)
    (hpending : (s.link l).pendingMode = none) :
    let k := s.after l levels
    let d := s.routeDamaged l k.assembly.message s.status.stamp
    ∃ t, (s.heard l levels).checkError l = t ∧ ErrorEnds l k (s.sender l) 1 t
      ∧ (t.link l).counter .check = (k.counts .check).counter .check
      ∧ sameDrive s t ∧ samePlan s t ∧ t.repeater = s.repeater ∧ otherLinksSame s t l
      ∧ t.ringWriter = d.ringWriter ∧ t.routers = d.routers ∧ t.path = d.path
      ∧ (d.caused .overflow = true → t.caused .overflow = true) := by
  intro k d
  let a := (s.heard l levels).scored l .check fun v => addScore v 1
  let b := a.routeDamaged l k.assembly.message s.status.stamp
  have hstate : (s.heard l levels).checkError l = b.endAtError l true := by
    show (a.routeDamaged l ((s.heard l levels).link l).assembly.message s.status.stamp).endAtError l true = _
    rw [State.heard_link]
  have hring : RingOnly a b := a.routeDamaged_ringOnly l _ _
  have hscored : LinkSide l s a := (s.heard_linkSide l levels).trans
    (State.countError_linkSide _ l .check false nofun nofun)
  have hscoredRaised : statusOnlyRaised s a := State.heardScored_raised _ _
  obtain ⟨links, status, ha⟩ := s.checkScored_onLine l levels fun v => addScore v 1
  obtain ⟨status', hsame, hoverflow⟩ := s.routeDamaged_onLine links status l k.assembly.message s.status.stamp
  rw [← ha] at hsame hoverflow
  change b = d.onLine links status' at hsame
  change d.caused .overflow = true → _ ∨ b.caused .overflow = true at hoverflow
  obtain ⟨hends, hcount⟩ := State.heard_error_ends (b := b) (c := .check) (n := 1) hb hmode hhealth hpending nofun
    (congrArg (look · l) hring.links) (congrArg (look · l) hring.senders) hring.raised
  have hend : LinkSide l b (b.endAtError l true) := b.endAtError_linkSide l true
  have hraised : statusOnlyRaised b (b.endAtError l true) := b.endAtError_raised l true
  obtain ⟨hdrive, hplan, hrepeater, hothers⟩ := besides_of_ringOnly hscored hring hend
  refine ⟨b.endAtError l true, hstate, hends, hcount, hdrive, hplan, hrepeater, hothers, ?_⟩
  clear_value a b d
  refine ⟨hend.ringWriter.trans (congrArg State.ringWriter hsame :),
    hend.routers.trans (congrArg State.routers hsame :), hend.samePath.trans (congrArg State.path hsame :),
    fun hcaused => ?_⟩
  rcases hoverflow hcaused with hbefore | hraisedNow
  · exact (hscoredRaised.trans (hring.raised.trans hraised)).caused hbefore
  · exact hraised.caused hraisedNow

/-- Settles O22: the three errors that route nothing by `plainError_ends`, CHECK by `checkError_ends`. -/
theorem errorsScoreAndMark : Obligations.ErrorsScoreAndMark := by
  intro l levels s hrun hmode hhealth hpending k w ends
  refine ⟨fun hb => ?_, fun hb => ?_, fun hb => ?_, fun hb => ?_⟩
  · obtain ⟨t, ht, honly, hends, hcount⟩ :=
      State.plainError_ends (c := .shape) hb hmode hhealth hpending false nofun nofun nofun
    exact ⟨t, (exec_shapeError hrun hb).trans (congrArg Host.Outcome.next ht), honly, hends, hcount⟩
  · obtain ⟨t, ht, hends, hcount, hdrive, hplan, hrepeater, hothers, hwriter, hrouters, hpath, hcaused⟩ :=
      State.checkError_ends hb hmode hhealth hpending
    exact ⟨t.commit, (exec_checkError hrun hb).trans (congrArg (fun t => Host.Outcome.next (State.commit t)) ht), hends,
      hcount, hdrive, hplan, hrepeater, hothers, hwriter, hrouters, State.commit_path_congr hpath, hcaused⟩
  · obtain ⟨t, ht, honly, hends, hcount⟩ :=
      State.plainError_ends (c := .noConfirm) hb hmode hhealth hpending true nofun nofun nofun
    exact ⟨t, (exec_noConfirmError hrun hb).trans (congrArg Host.Outcome.next ht), honly, hends, hcount⟩
  · obtain ⟨t, ht, honly, hends, hcount⟩ :=
      State.plainError_ends (c := .clash) hb hmode hhealth hpending true nofun nofun nofun
    exact ⟨t, (exec_clashError hrun hb).trans (congrArg Host.Outcome.next ht), honly, hends, hcount⟩

/-! ### A message received good (R54) -/

/-- A link that has counted and captured a message (R54). -/
def LinkCtl.captures (k : LinkCtl) (m : Message) (t : Stamp) : LinkCtl :=
  { k with received := satInc k.received, lastCaptured := captured m t }

theorem State.countReceived_eq (s : State) (l : LinkId) (m : Message) :
    s.countReceived l m = s.modLink l fun k => k.captures m s.now := by
  have hcount : s.bump (.link l .received) = s.modLink l fun k => { k with received := satInc (s.link l).received } := rfl
  rw [State.countReceived, hcount, State.modLink_modLink]
  exact congrArg (fun ks => { s with links := ks }) (update_congr _ _ rfl)

/-- Counting and capturing do not touch what a change of score looks at or changes. -/
theorem LinkCtl.captures_rescore (k : LinkCtl) (m : Message) (t : Stamp) (auto : Bool) (v : BitVec 8) :
    (k.captures m t).rescore auto v =
      { k.rescore auto v with received := satInc k.received, lastCaptured := captured m t } := by
  unfold LinkCtl.rescore
  have hcondition : ((k.captures m t).mode = .run ∧ (k.captures m t).health ≠ .silent)
      = (k.mode = .run ∧ k.health ≠ .silent) := rfl
  simp only [hcondition]
  split <;> rfl

theorem State.raise_modLink (s : State) (l : LinkId) (c : Cause) (f : LinkCtl → LinkCtl) :
    (s.raise c).modLink l f = (s.modLink l f).raise c := rfl

/-- The state of a message received good, before its routing. -/
theorem State.received_eq (s : State) (l : LinkId) (levels : List Level) (m : Message) :
    let k := s.after l levels
    let k' := k.rescore (s.autoRecovery l) (lowerScore k.score)
    let j : LinkCtl := { k' with received := satInc k.received, lastCaptured := captured m s.now }
    (((s.heard l levels).countReceived l m).rescore l lowerScore).modLink l LinkCtl.waitGap =
      { s with
        links := update s.links l fun _ => j.waitGap
        status := if k'.health = k.health then s.status
          else s.status.raise s.plan.attentionMask s.plan.lineMode .link } := by
  intro k k' j
  let u := s.modLink l fun _ => k.captures m s.now
  have hcaptured : (s.heard l levels).countReceived l m = u := by
    rw [State.countReceived_eq, State.heard_modLink]
    rfl
  have hlink : u.link l = k.captures m s.now := s.link_modLink_self l _
  have hrescored : (u.link l).rescore (u.autoRecovery l) (lowerScore (u.link l).score) = j := by
    rw [hlink]
    exact k.captures_rescore m s.now _ _
  have hhealth : (u.link l).health = k.health := (congrArg LinkCtl.health hlink :)
  have hstate : u.rescore l lowerScore =
      (u.modLink l fun _ => j).raiseIf (k'.health != k.health) .link := by
    rw [State.rescore, hrescored, hhealth]
  rw [hcaptured, hstate, State.modLink_modLink, State.raiseIf_eq]
  by_cases hsame : k'.health = k.health
  · have hno : (k'.health != k.health) = false := by simp [hsame]
    rw [hno, if_neg Bool.false_ne_true, if_pos hsame, State.modLink_modLink]
    rfl
  · have hyes : (k'.health != k.health) = true := bne_iff_ne.mpr hsame
    rw [hyes, if_pos rfl, if_neg hsame, State.raise_modLink, State.modLink_modLink]
    rfl

/-- Settles O24: the link as counted, scored and waiting for a gap, and the routing of the message from there. -/
theorem messageReceivedIsCaptured : Obligations.MessageReceivedIsCaptured := by
  intro l levels s hrun hb hmirror k m scores lower k' capturedState
  let j : LinkCtl :=
    { k' with
      received := satInc k.received, lastCaptured := ⟨m.tag, m.kind, m.length, s.status.stamp⟩, phase := .gapWait
      gapCount := 0, idleRun := 0 }
  obtain ⟨u, hu⟩ : ∃ u, (s.heard l levels).messageReceived l = u := ⟨_, rfl⟩
  have hstate : u = State.routeGood capturedState l m s.status.stamp := by
    have hbefore := s.received_eq l levels m
    rw [← hu]
    show (((((s.heard l levels).countReceived l ((s.heard l levels).link l).assembly.message).rescore l
      lowerScore).modLink l LinkCtl.waitGap).routeGood l ((s.heard l levels).link l).assembly.message s.status.stamp) = _
    rw [State.heard_link]
    exact congrArg (fun t => State.routeGood t l m s.status.stamp) hbefore
  have hlink := look_update_self s.links l fun _ => j
  change capturedState.link l = j at hlink
  obtain ⟨_, _, hrescored⟩ := k.rescore_eq (s.autoRecovery l) lower
  have hmode : k'.mode = k.mode := (congrArg LinkCtl.mode hrescored :)
  have htake : (capturedState.link l).canTake = false := by
    rw [hlink]
    refine LinkCtl.canTake_of_not_mirror ?_ (by exact nofun)
    show k'.mode ≠ .mirror
    rw [hmode, State.after_mode hb]
    exact hmirror
  have hroutes := State.routeGood_routes htake m s.status.stamp
  have hinner : Inner s u := by
    rw [← hu]
    exact (s.heard_linkSide l levels).toInner.trans (State.messageReceived_inner _ l)
  rw [← hstate] at hroutes
  have hended : u.link l = j := hroutes.link.trans hlink
  refine ⟨u.commit, (exec_messageReceived hrun hb).trans (congrArg (fun t => Host.Outcome.next (State.commit t)) hu),
    congrArg State.commit hstate, ?_⟩
  have hscore : (u.link l).score = if scores then lower else k.score :=
    (congrArg LinkCtl.score hended).trans (congrArg LinkCtl.score hrescored)
  have hhealth : (u.link l).health = if scores then healthOf lower else k.health :=
    (congrArg LinkCtl.health hended).trans (congrArg LinkCtl.health hrescored)
  have hrepeater : u.repeater = s.repeater := hroutes.repeater
  have hesl : u.esl = s.esl := hroutes.esl
  refine ⟨fun hscores => ?_, fun hscores => ?_, congrArg LinkCtl.received hended, congrArg LinkCtl.lastCaptured hended,
    congrArg LinkCtl.phase hended, (congrArg LinkCtl.mode hended).trans hmode,
    ⟨hinner.loader, hinner.planSel, hinner.inReset⟩, hrepeater, hinner.stamp, hesl⟩
  · rw [if_pos hscores] at hscore hhealth
    exact ⟨hscore, hhealth⟩
  · rw [if_neg hscores] at hscore hhealth
    exact ⟨hscore, hhealth⟩

end Sys2Proof.Machine
end

section
/-! MIRROR (R64): the head of the send queue taken, and a mirrored message sent, received and routed (O25). -/

namespace Sys2Proof.Machine

/-! ### The gap of MIRROR -/

theorem LinkCtl.inMirrorGap_iff (k : LinkCtl) :
    k.inMirrorGap = true ↔ k.mode = .mirror ∧ k.item = none ∧ k.mirrorGap = false := by
  simp [LinkCtl.inMirrorGap, and_assoc]

/-- A link in MIRROR whose 12 bit-times have passed. -/
def LinkCtl.gapPassed (k : LinkCtl) : LinkCtl := { k with mirrorGap := true }

theorem exec_mirrorGapEnd {l : LinkId} {s : State} (hrun : s.running = true) (h : (s.link l).inMirrorGap = true) :
    exec (.mirrorGapEnd l) s = .next ((s.modLink l LinkCtl.gapPassed).kick l) := by
  have hstaged : (s.mirrorGapEnds l).path.staged = [] := State.running_staged hrun
  have hevent := s.event_eq (fun t => t.mirrorGapEnds l) hrun hstaged
  exact congrArg Host.Outcome.next ((if_pos h).trans hevent)

/-- A link in MIRROR with an item leaves the line alone (R64). -/
theorem LinkCtl.withItem_of_mirror {k : LinkCtl} (h : k.mode = .mirror) (m : Message) (r : ItemRef) :
    k.withItem m r = { k with item := some ⟨r, m, [], true⟩, assembly := Assembly.empty } := by
  rw [LinkCtl.withItem, h]
  rfl

/-! ### Modes entered from MIRROR (R63) -/

/-- A link that leaves MIRROR for another mode, or stays with its gap to pass, takes nothing at that event. -/
theorem LinkCtl.enter_of_mirror {k : LinkCtl} (h : k.mode = .mirror) (hg : k.mirrorGap = false) (m : Mode)
    (manual : Bool) (free : Nat) : (k.enter m manual free).canTake = false := by
  obtain ⟨hmode, -⟩ := k.enter_mode m manual free
  have hleft : k.mode.attached = false := by rw [h]; rfl
  cases m with
  | run =>
    obtain ⟨hphase, -⟩ := LinkCtl.enter_attached (.inl rfl) hleft manual free
    exact LinkCtl.canTake_of_run hmode (by rw [hphase]; decide)
  | listen =>
    obtain ⟨hphase, -⟩ := LinkCtl.enter_attached (.inr rfl) hleft manual free
    exact LinkCtl.canTake_of_not_mirror (by rw [hmode]; decide) (by rw [hphase]; decide)
  | mirror =>
    refine LinkCtl.canTake_of_mirror hmode ?_
    rw [LinkCtl.enter, if_pos h]
    exact hg
  | setup | quiet => rfl

/-- What a link counts and has captured outlives its mode. -/
theorem LinkCtl.enter_counts (k : LinkCtl) (m : Mode) (manual : Bool) (free : Nat) :
    let k' := k.enter m manual free
    k'.sent = k.sent ∧ k'.received = k.received ∧ k'.lastCaptured = k.lastCaptured := by
  cases m with
  | run =>
    simp only [LinkCtl.enter]
    split <;> split <;> exact ⟨rfl, rfl, rfl⟩
  | listen | mirror =>
    simp only [LinkCtl.enter]
    split <;> exact ⟨rfl, rfl, rfl⟩
  | setup | quiet => exact ⟨rfl, rfl, rfl⟩

theorem State.abortSends_slot (s : State) (l : LinkId) (i : SlotId) :
    (s.abortSends l).slot l i = (s.slot l i).abort := by
  have hsender : (s.abortSends l).sender l = (s.sender l).abortAll := look_update_self _ _ _
  rw [State.slot, hsender]
  exact look_map _ _ i

theorem Slot.abort_sent {sl : Slot} (h : sl.state = .sent) : sl.abort = sl := by
  rw [Slot.abort, h]

/-- A SENT slot outlives a change of mode that takes nothing. -/
theorem State.completeMode_sentSlot {s : State} {l : LinkId} {m : Mode} {i : SlotId}
    (h : ((s.link l).enter m (!s.autoRecovery l) s.freeCount).canTake = false) (hsent : (s.slot l i).state = .sent) :
    ((s.completeMode l m).slot l i).state = .sent := by
  have hentered : (s.entered l m).slot l i = s.slot l i := rfl
  rw [State.completeMode_of_not_canTake h]
  split
  · rw [State.abortSends_slot, hentered, Slot.abort_sent hsent]
    exact hsent
  · exact hsent

/-- What the completion of a mode that waits in MIRROR keeps: the counters, the capture and the SENT slots. -/
theorem State.completePending_of_mirror {s : State} {l : LinkId} (hmode : (s.link l).mode = .mirror)
    (hgap : (s.link l).mirrorGap = false) :
    ((s.completePending l).link l).sent = (s.link l).sent
      ∧ ((s.completePending l).link l).received = (s.link l).received
      ∧ ((s.completePending l).link l).lastCaptured = (s.link l).lastCaptured
      ∧ ∀ i, (s.slot l i).state = .sent → ((s.completePending l).slot l i).state = .sent := by
  cases hpending : (s.link l).pendingMode with
  | none =>
    rw [State.completePending_none hpending]
    exact ⟨rfl, rfl, rfl, fun _ h => h⟩
  | some m =>
    have htake := LinkCtl.enter_of_mirror hmode hgap m (!s.autoRecovery l) s.freeCount
    obtain ⟨hsent, hreceived, hcaptured⟩ := (s.link l).enter_counts m (!s.autoRecovery l) s.freeCount
    rw [State.completePending_some hpending, State.completeMode_link_of_not_canTake htake]
    exact ⟨hsent, hreceived, hcaptured, fun i h => State.completeMode_sentSlot htake h⟩

/-! ### The end of a mirrored message (R64, log 21) -/

/-- The state in which the outcome SENT of a mirrored item has been handed over. -/
def State.mirrorHanded (s : State) (l : LinkId) (it : WireItem) : State :=
  State.itemOutcome (s.modLink l fun k => { k with mirrorGap := false, item := none }) l it.ref .sent

/-- A link that has sent, received and captured a message. -/
def LinkCtl.mirrors (k : LinkCtl) (m : Message) (t : Stamp) : LinkCtl :=
  { k with sent := satInc k.sent, received := satInc k.received, lastCaptured := captured m t }

/-- The state in which that message has been counted, captured and routed. -/
def State.mirrorRouted (s : State) (l : LinkId) (it : WireItem) : State :=
  ((s.mirrorHanded l it).modLink l fun k => k.mirrors it.message s.now).routeGood l it.message s.now

theorem State.mirrorHanded_linkSide (s : State) (l : LinkId) (it : WireItem) : LinkSide l s (s.mirrorHanded l it) :=
  (s.modLink_linkSide l _).trans (State.itemOutcome_linkSide _ l it.ref .sent)

section
variable {s : State} {l : LinkId} {it : WireItem}

theorem State.mirroredEnds_eq (hitem : (s.link l).item = some it) :
    s.mirroredEnds l it.message = (s.mirrorRouted l it).completePending l := by
  let u := s.modLink l fun k => { k with mirrorGap := false }
  have hended : u.endItem l .sent = s.mirrorHanded l it := by
    have huitem : (u.link l).item = some it := (congrArg LinkCtl.item (s.link_modLink_self l _)).trans hitem
    rw [State.endItem_some huitem, State.modLink_modLink]
    rfl
  have hnow : ((s.mirrorHanded l it).bump (.link l .sent)).now = s.now := (s.mirrorHanded_linkSide l it).stamp
  have hcounted : ((s.mirrorHanded l it).bump (.link l .sent)).countReceived l it.message
      = (s.mirrorHanded l it).modLink l fun k => k.mirrors it.message s.now := by
    rw [State.countReceived_eq, hnow]
    refine ((s.mirrorHanded l it).modLink_modLink l _ _).trans ?_
    exact congrArg (fun ks => { s.mirrorHanded l it with links := ks }) (update_congr _ _ rfl)
  rw [State.mirroredEnds, hended, hcounted, State.mirrorRouted]

variable (hmode : (s.link l).mode = .mirror)
include hmode

theorem exec_mirroredMessageEnd (hrun : s.running = true) (hitem : (s.link l).item = some it) :
    exec (.mirroredMessageEnd l) s = .next ((s.mirrorRouted l it).completePending l).commit := by
  have hmirrored : (s.link l).mirrored = some it.message := by
    rw [LinkCtl.mirrored, if_pos hmode, hitem]
    rfl
  have hevent := s.event_of_running (fun t => t.mirroredEnds l it.message) (State.running_inReset hrun)
  show execMirroredMessageEnd l s = _
  rw [execMirroredMessageEnd, hmirrored, ← State.mirroredEnds_eq hitem]
  exact congrArg Host.Outcome.next hevent

theorem State.mirrorHanded_link :
    (s.mirrorHanded l it).link l = { s.link l with mirrorGap := false, item := none } := by
  have hlink := s.link_modLink_self l fun k => { k with mirrorGap := false, item := none }
  refine (State.itemOutcome_link ?_ _ _).trans hlink
  rw [hlink]
  exact LinkCtl.canTake_of_mirror hmode rfl

/-- The routing of a mirrored message leaves its link, which has no gap behind it. -/
theorem State.mirrorRouted_routes :
    Routes l ((s.mirrorHanded l it).modLink l fun k => k.mirrors it.message s.now) (s.mirrorRouted l it) := by
  refine State.routeGood_routes ?_ _ _
  rw [State.link_modLink_self, State.mirrorHanded_link hmode]
  exact LinkCtl.canTake_of_mirror hmode rfl

theorem State.mirrorRouted_link : (s.mirrorRouted l it).link l =
    { s.link l with mirrorGap := false, item := none }.mirrors it.message s.now := by
  rw [(State.mirrorRouted_routes hmode).link, State.link_modLink_self, State.mirrorHanded_link hmode]

theorem State.mirrorRouted_repeater : (s.mirrorRouted l it).repeater = s.repeater :=
  (State.mirrorRouted_routes hmode).repeater.trans (s.mirrorHanded_linkSide l it).repeater

/-- A mirrored slot becomes SENT, and routing leaves it so (R64, R77). -/
theorem State.mirrorRouted_slot {i : SlotId} (href : it.ref = .slot i) (hsending : (s.slot l i).purpose ≠ .answer) :
    ((s.mirrorRouted l it).slot l i).state = .sent ∧ (s.mirrorRouted l it).caused .sent = true := by
  have hroutes := State.mirrorRouted_routes (it := it) hmode
  have hsent := Slot.outcome_sent (s.slot l i) (s.linkSettings l).retryLimit hsending
  have hslot : ((s.mirrorHanded l it).slot l i).state = .sent := by
    rw [State.mirrorHanded, href]
    exact (congrArg Slot.state (State.changeSlot_slot _ l i _)).trans hsent
  have hcaused : (s.mirrorHanded l it).caused .sent = true := by
    rw [State.mirrorHanded, href]
    exact State.changeSlot_caused _ l i (Slot.ended_sent hsent)
  exact ⟨(congrArg Slot.state (hroutes.sentSlot i hslot)).trans hslot, hroutes.raised.caused hcaused⟩

end

/-- Settles O25: the gap's end lets the head be taken; a message's end is the outcome, the captured message and its routing,
which leave the link, and then the mode that waits. -/
theorem mirrorTakesAndEndsMessage : Obligations.MirrorTakesAndEndsMessage := by
  refine ⟨fun l s hrun hmode hitem hgap => ?_, fun l s it hrun hmode hitem => ?_⟩
  · rw [exec_mirrorGapEnd hrun ((LinkCtl.inMirrorGap_iff _).mpr ⟨hmode, hitem, hgap⟩)]
    refine ⟨fun hq => congrArg Host.Outcome.next (State.kick_idle (.inr hq)), fun x xs hq => ?_⟩
    have hlink := s.link_modLink_self l LinkCtl.gapPassed
    have htake : ((s.modLink l LinkCtl.gapPassed).link l).canTake = true := by
      rw [hlink]
      simp [LinkCtl.canTake, LinkCtl.gapPassed, hmode, hitem]
    refine congrArg Host.Outcome.next ((State.kick_takes htake hq).trans ?_)
    have hlinks : update (update s.links l LinkCtl.gapPassed) l
          (fun k => k.withItem ((s.sender l).message x.ref) x.ref) = update s.links l fun k =>
        { k with
          mirrorGap := true
          item := some ⟨x.ref, (s.sender l).message x.ref, [], true⟩
          assembly := Assembly.empty } := by
      rw [update_update]
      exact update_congr _ _ (LinkCtl.withItem_of_mirror (k := (s.link l).gapPassed) hmode _ _)
    exact congrArg (fun ks => { s with
      links := ks, senders := update s.senders l fun c => { c with queue := xs }.putOnWire x.ref }) hlinks
  · intro handed received routed
    have hrouted : routed = s.mirrorRouted l it := rfl
    have hexec := exec_mirroredMessageEnd hmode hrun hitem
    have hinner := s.mirroredEnds_inner l it.message
    have hlink := State.mirrorRouted_link (it := it) hmode
    have hrepeater := State.mirrorRouted_repeater (it := it) hmode
    have hslot := fun i => State.mirrorRouted_slot (it := it) (i := i) hmode
    rw [State.mirroredEnds_eq hitem] at hinner
    rw [← hrouted] at hexec hinner hlink hrepeater hslot
    clear_value routed
    have hpending : (routed.link l).pendingMode = (s.link l).pendingMode := (congrArg LinkCtl.pendingMode hlink :)
    have hraised := routed.completePending_raised l
    have hcompleted := routed.completePending_linkSide l
    obtain ⟨hsent, hcount, hcaptured, hslots⟩ := State.completePending_of_mirror (s := routed) (l := l)
      ((congrArg LinkCtl.mode hlink :).trans hmode) (congrArg LinkCtl.mirrorGap hlink)
    refine ⟨_, hexec, fun hnone => ?_, fun m hsome => ?_, hsent.trans (congrArg LinkCtl.sent hlink),
      hcount.trans (congrArg LinkCtl.received hlink), hcaptured.trans (congrArg LinkCtl.lastCaptured hlink),
      fun i href hsending => ?_, ⟨hinner.loader, hinner.planSel, hinner.inReset⟩, ?_, hinner.stamp,
      fun hnone => ?_, fun m hsome => ?_⟩
    · rw [State.completePending_none (hpending.trans hnone)]
    · rw [State.completePending_some (hpending.trans hsome)]
    · obtain ⟨hsentSlot, hcaused⟩ := hslot i href hsending
      exact ⟨hslots i hsentSlot, hraised.caused hcaused⟩
    · exact hcompleted.repeater.trans hrepeater
    · rw [State.completePending_none (hpending.trans hnone)]
      exact ⟨(congrArg LinkCtl.mode hlink :).trans hmode, (congrArg LinkCtl.item hlink :),
        (congrArg LinkCtl.mirrorGap hlink :)⟩
    · rw [State.completePending_some (hpending.trans hsome)]
      obtain ⟨hentered, hnone⟩ := routed.completeMode_mode l m
      exact ⟨hentered, hnone, routed.completeMode_caused l m⟩

end Sys2Proof.Machine
end

section
/-! Requests to a Send Controller as upstream transfers: SEND and ANSWER accepted (O29), ABORT (O30), ABORT_ALL (O31). -/

namespace Sys2Proof.Machine

/-! ### A write whose first beat is the trigger (R5, R9, R13) -/

theorem State.slotRequest_linkSide (s : State) (ts : List Touch) (l : LinkId) (i : SlotId) (w : Word) :
    LinkSide l s (s.slotRequest ts l i w).1 := by
  unfold State.slotRequest
  split
  · exact s.requestFetch_linkSide l i _
  · split
    · unfold State.answerRequest
      split
      · exact s.armNow_linkSide l i _
      · exact s.requestFetch_linkSide l i _
    · exact s.abortSlot_linkSide l i

/-- A beat that rides along with a request to slot `i`: one with no byte enabled on a state word, or one of the host
fields. -/
def ridesAlong (l : LinkId) (i : SlotId) (x : Touch) : Prop :=
  (∃ k, x = (.slotState l i k, emptyBeat)) ∨ ∃ k, x.1 = .host l i k

/-- Such a beat passes while the slot is not owned (R5, R74). -/
theorem State.beatDisposition_ridesAlong {s : State} {l : LinkId} {i : SlotId} {x : Touch}
    (hfree : (s.slot l i).state.owned = false) (h : ridesAlong l i x) (ts : List Touch) :
    s.beatDisposition ts x = .pass := by
  obtain ⟨k, rfl⟩ | ⟨k, hk⟩ := h
  · rfl
  · simp [State.beatDisposition, State.writeDisposition, hk, WordRef.wordClass, State.admits, hfree]

theorem State.beatEffect_ridesAlong {s : State} {l : LinkId} {i : SlotId} {x : Touch}
    (hfree : (s.slot l i).state.owned = false) (h : ridesAlong l i x) (ts : List Touch) (acc : State × List Notice) :
    s.beatEffect ts acc x = acc := by
  have hpass : s.beatDisposition ts x ≠ .passTrigger := by
    rw [State.beatDisposition_ridesAlong hfree h]
    decide
  obtain ⟨k, rfl⟩ | ⟨k, hk⟩ := h
  · simp only [State.beatEffect, if_neg hpass]
  · simp only [State.beatEffect, hk, if_neg hpass]

theorem State.beatEffects_ridesAlong {s : State} {l : LinkId} {i : SlotId} {xs : List Touch}
    (h : ∀ x ∈ xs, ridesAlong l i x ∧ (s.slot l i).state.owned = false) (ts : List Touch) (acc : State × List Notice) :
    xs.foldl (s.beatEffect ts) acc = acc := by
  induction xs with
  | nil => rfl
  | cons x xs ih =>
    obtain ⟨hrides, hfree⟩ := h x List.mem_cons_self
    rw [List.foldl_cons, State.beatEffect_ridesAlong hfree hrides]
    exact ih fun y hy => h y (List.mem_cons_of_mem _ hy)

/-- What the taking of a write is made of. -/
theorem State.taking_write (s : State) {t : Transfer} (h : isWriteTransfer t = true) :
    s.dispositions t = (s.touches t).map (s.beatDisposition (s.touches t))
      ∧ s.takeEffects t = s.writeEffects (s.touches t) ∧ s.snapshotOf t = [] ∧ t.beatCount = (writeBeats t).length := by
  cases t with
  | mk id start op =>
    cases op with
    | read n => cases h
    | write bs => exact ⟨rfl, rfl, rfl, rfl⟩

theorem firstWithheld_replicate_pass (n : Nat) : firstWithheld (.passTrigger :: List.replicate n .pass) = none := by
  rw [firstWithheld, List.findIdx?_eq_none_iff]
  intro d hd
  rcases List.mem_cons.mp hd with rfl | hd
  · rfl
  · rw [List.eq_of_mem_replicate hd]
    rfl

/-- A write whose beats all pass is one piece (R13). -/
theorem newEntry_passTrigger {t : Transfer} {n : Nat} (hwrite : isWriteTransfer t = true) (hcount : t.beatCount = n + 1)
    (ns : List Notice) : newEntry t (.passTrigger :: List.replicate n .pass) [] ns =
      passedEntry t (.passTrigger :: List.replicate n .pass) ns := by
  have hbeats : t.beatCount = (writeBeats t).length := by
    obtain ⟨-, -, -, hbeats⟩ := State.reset.taking_write hwrite
    exact hbeats
  have hruns : passRuns 0 0 (.passTrigger :: List.replicate n .pass) = [(0, t.beatCount)] := by
    rw [hcount, Nat.add_comm n 1]
    exact passRuns_replicate_pass 1 1 n (by omega)
  have hall : (writeBeats t).take t.beatCount = writeBeats t := List.take_of_length_le hbeats.ge
  simp [newEntry, passedEntry, piecesOf, hruns, hall, hwrite]

/-- An accepted slot request taken at once: its effect, and one entry of a single piece with its notices. -/
theorem State.presentTransfer_slotRequest {s : State} {t : Transfer} {l : LinkId} {i : SlotId} {code : Word}
    {xs : List Touch} (hnow : s.takesNow = true) (hwrite : isWriteTransfer t = true)
    (ht : s.touches t = (.request l i, fullBeat code) :: xs) (haccepts : s.acceptsRequest l i code = true)
    (hrides : ∀ x ∈ xs, ridesAlong l i x ∧ (s.slot l i).state.owned = false) :
    s.presentTransfer t = (s.slotRequest (s.touches t) l i code).1.withEntry
      (passedEntry t (.passTrigger :: List.replicate xs.length .pass) (s.slotRequest (s.touches t) l i code).2) := by
  obtain ⟨-, -, -, hstaged, hdelivered⟩ := s.takesNow_iff.mp hnow
  obtain ⟨hdispositions, heffects, hsnapshot, hbeats⟩ := s.taking_write hwrite
  have htrigger (ts : List Touch) : s.beatDisposition ts (.request l i, fullBeat code) = .passTrigger := by
    rw [s.trigger_disposition _ _ rfl]
    exact if_pos haccepts
  have hpass (ts : List Touch) : xs.map (s.beatDisposition ts) = List.replicate xs.length .pass := by
    refine List.eq_replicate_iff.mpr ⟨List.length_map _, fun d hd => ?_⟩
    obtain ⟨x, hx, rfl⟩ := List.mem_map.mp hd
    obtain ⟨hx, hfree⟩ := hrides x hx
    exact State.beatDisposition_ridesAlong hfree hx _
  have hbeat (ts : List Touch) : s.beatEffect ts (s, []) (.request l i, fullBeat code) = s.slotRequest ts l i code :=
    if_pos (htrigger ts)
  have hcount : t.beatCount = xs.length + 1 := by
    rw [hbeats, ← s.touches_length, ht, List.length_cons]
  have hcapture (u : State) : u.captureWithheld t (.passTrigger :: List.replicate xs.length .pass) = u := by
    rw [State.captureWithheld, firstWithheld_replicate_pass]
  have hpath := (s.slotRequest_linkSide (s.touches t) l i code).samePath
  have heffect : s.takeEffects t = s.slotRequest (s.touches t) l i code := by
    rw [heffects, State.writeEffects, ht, List.foldl_cons, hbeat, State.beatEffects_ridesAlong hrides]
  rw [s.presentTransfer_now t hnow, s.taking_of_delivered t hdelivered, heffect]
  have hds : s.dispositions t = .passTrigger :: List.replicate xs.length .pass := by
    rw [hdispositions, ht, List.map_cons, htrigger, hpass]
  rw [hds, hsnapshot, hcapture, newEntry_passTrigger hwrite hcount]
  exact State.commit_of_empty _ ((congrArg Path.staged hpath).trans hstaged)

/-! ### SEND, ANSWER and ABORT as transfers (R70 to R72) -/

/-- The beats of a slot request with the host fields: the code, two beats with no byte enabled, the five fields. -/
def recordBeats (code : Word) (ws : Vector Word 5) : List WriteBeat :=
  fullBeat code :: emptyBeat :: emptyBeat :: ws.toList.map fullBeat

/-- The words that those beats ride along to. -/
def recordTouches (l : LinkId) (i : SlotId) (ws : Vector Word 5) : List Touch :=
  (.slotState l i 1, emptyBeat) :: (.slotState l i 2, emptyBeat)
    :: [.host l i 3, .host l i 4, .host l i 5, .host l i 6, .host l i 7].zip (ws.toList.map fullBeat)

theorem recordTouches_length (l : LinkId) (i : SlotId) (ws : Vector Word 5) : (recordTouches l i ws).length = 7 := by
  simp [recordTouches]

theorem ridesAlong_of_mem_recordTouches {l : LinkId} {i : SlotId} {ws : Vector Word 5} {x : Touch}
    (h : x ∈ recordTouches l i ws) : ridesAlong l i x := by
  rcases List.mem_cons.mp h with rfl | h
  · exact .inl ⟨1, rfl⟩
  · rcases List.mem_cons.mp h with rfl | h
    · exact .inl ⟨2, rfl⟩
    · have hword := (List.of_mem_zip h).1
      simp only [List.mem_cons, List.not_mem_nil, or_false] at hword
      rcases hword with hk | hk | hk | hk | hk <;> exact .inr ⟨_, hk⟩

/-- The Tag that a request with the host fields writes is the upper half of their first word (Table 11-11). -/
theorem writtenTag_record (l : LinkId) (i : SlotId) (code : Word) (ws : Vector Word 5) :
    writtenTag ((.request l i, fullBeat code) :: recordTouches l i ws) l i = some (ws[0].extractLsb' 16 16) := by
  obtain ⟨w, tl, hws⟩ : ∃ w tl, ws.toList = w :: tl := List.exists_cons_of_length_eq_add_one (n := 4) ws.length_toList
  have hfirst : ws[0] = w := by
    have hhead : ws.toList.head? = some ws[0] := by rw [List.head?_eq_getElem?]; simp
    rw [hws] at hhead
    exact (Option.some.inj hhead).symm
  rw [hfirst, recordTouches, hws]
  simp [writtenTag, fullBeat, emptyBeat]

/-- Without the host fields no Tag is written. -/
theorem writtenTag_request (l : LinkId) (i : SlotId) (b : WriteBeat) : writtenTag [(.request l i, b)] l i = none := rfl

/-- The words beside the request word that a slot request writes. -/
def riders (l : LinkId) (i : SlotId) (body : Option (Vector Word 5)) : List Touch :=
  match body with
  | none => []
  | some ws => recordTouches l i ws

/-- A slot request that is taken now and accepted, its slot not owned where the host fields are written too. -/
theorem State.slotRequest_taken {s : State} {l : LinkId} {i : SlotId} {code : Word} {id : TransferId}
    {body : Option (Vector Word 5)} (h : s.takesRequest l i code id body = true)
    (haccepts : s.acceptsRequest l i code = true) (hfree : body = none ∨ (s.slot l i).state.owned = false) :
    ∃ x, requestTransfer s.plan l i code id body = some x
      ∧ s.request (requestTransfer s.plan l i code id body) =
        (s.slotRequest ((.request l i, fullBeat code) :: riders l i body) l i code).1.withEntry
          (requestEntry x body (s.slotRequest ((.request l i, fullBeat code) :: riders l i body) l i code).2) := by
  simp only [State.takesRequest, Bool.and_eq_true, Option.any_eq_true, beq_iff_eq] at h
  obtain ⟨hnow, x, hx, hrefs⟩ := h
  refine ⟨x, hx, ?_⟩
  rw [hx]
  obtain ⟨a, -, rfl⟩ := Option.map_eq_some_iff.mp hx
  cases body with
  | none =>
    have ht : s.touches (wordWrite id a code) = [(.request l i, fullBeat code)] := by
      rw [State.touches, hrefs]
      rfl
    have htaken := State.presentTransfer_slotRequest hnow rfl ht haccepts (by simp)
    rw [ht] at htaken
    exact htaken
  | some ws =>
    have ht : s.touches ⟨id, a, .write (recordBeats code ws)⟩ =
        (.request l i, fullBeat code) :: recordTouches l i ws := by
      rw [State.touches]
      exact (congrArg (List.zip · (recordBeats code ws)) hrefs).trans rfl
    have htaken := State.presentTransfer_slotRequest hnow rfl ht haccepts fun x hmem =>
      ⟨ridesAlong_of_mem_recordTouches hmem, hfree.resolve_left nofun⟩
    rw [ht, recordTouches_length] at htaken
    exact htaken

theorem SlotState.mem_free {st : SlotState} (h : st ∈ [SlotState.idle, .sent, .failed, .aborted]) :
    st.free = true ∧ st.owned = false := by
  simp only [List.mem_cons, List.not_mem_nil, or_false] at h
  rcases h with rfl | rfl | rfl | rfl <;> exact ⟨rfl, rfl⟩

/-- SEND and ANSWER are accepted for a free slot outside SETUP (R70, R71). -/
theorem State.acceptsRequest_free {s : State} {l : LinkId} {i : SlotId} {code : Word}
    (hcode : code = sendCode ∨ code = answerCode) (hslot : (s.slot l i).state.free = true)
    (hmode : (s.link l).mode ≠ .setup) : s.acceptsRequest l i code = true := by
  rw [State.acceptsRequest, if_pos hcode, hslot]
  simpa using hmode

/-- Outside SETUP an accepted request opens a fetch and has its notice (R70, R71). -/
theorem State.requestFetch_of_mode {s : State} {l : LinkId} (hmode : (s.link l).mode ≠ .setup) (i : SlotId)
    (p : SlotPurpose) : s.requestFetch l i p = (s.modSender l fun c => c.acceptFetch i p)
      ∧ s.fetchNotice l i = [.fetch l i (s.sender l).fetchSerial] := by
  have hsetup : ((s.link l).mode == Mode.setup) = false := by simpa using hmode
  constructor
  · rw [State.requestFetch, hsetup]
    rfl
  · exact if_neg hmode

theorem State.armNow_of_mode {s : State} {l : LinkId} (hmode : (s.link l).mode ≠ .setup) (i : SlotId) (t : Tag) :
    s.armNow l i t = s.modSender l fun c => c.acceptSlot i .answer fun sl =>
      { sl with armedTag := some t }.settle .armed := by
  rw [State.armNow, if_neg hmode]

theorem State.slotRequest_send (s : State) (ts : List Touch) (l : LinkId) (i : SlotId) :
    s.slotRequest ts l i 1 = (s.requestFetch l i .send, s.fetchNotice l i) := rfl
theorem State.slotRequest_answer (s : State) (ts : List Touch) (l : LinkId) (i : SlotId) :
    s.slotRequest ts l i 2 = s.answerRequest ts l i := rfl
theorem State.slotRequest_abort (s : State) (ts : List Touch) (l : LinkId) (i : SlotId) :
    s.slotRequest ts l i 3 = (s.abortSlot l i, []) := rfl

/-- Settles O29: the request's effect outside SETUP, and the Tag that the host fields carry. -/
theorem sendAndAnswerAccepted : Obligations.SendAndAnswerAccepted := by
  refine ⟨fun l i id body s h hslot hmode => ?_, fun l i id s hslot hmode => ?_⟩
  · obtain ⟨hfree, howned⟩ := SlotState.mem_free hslot
    obtain ⟨x, hx, htaken⟩ := State.slotRequest_taken h (State.acceptsRequest_free (.inl rfl) hfree hmode) (.inr howned)
    obtain ⟨heffect, hnotice⟩ := State.requestFetch_of_mode hmode i .send
    rw [State.slotRequest_send, heffect, hnotice] at htaken
    exact ⟨x, hx, congrArg Host.Outcome.next htaken⟩
  · intro fresh
    obtain ⟨hfree, howned⟩ := SlotState.mem_free hslot
    have haccepts : s.acceptsRequest l i 2 = true := State.acceptsRequest_free (.inr rfl) hfree hmode
    refine ⟨fun ws h => ?_, fun h => ?_⟩
    · obtain ⟨x, hx, htaken⟩ := State.slotRequest_taken h haccepts (.inr howned)
      rw [State.slotRequest_answer, State.answerRequest, riders, writtenTag_record] at htaken
      dsimp only at htaken
      rw [State.armNow_of_mode hmode] at htaken
      exact ⟨x, hx, congrArg Host.Outcome.next htaken⟩
    · obtain ⟨x, hx, htaken⟩ := State.slotRequest_taken h haccepts (.inr howned)
      obtain ⟨heffect, hnotice⟩ := State.requestFetch_of_mode hmode i .answer
      rw [State.slotRequest_answer, State.answerRequest, riders, writtenTag_request] at htaken
      dsimp only at htaken
      rw [heffect, hnotice] at htaken
      exact ⟨x, hx, congrArg Host.Outcome.next htaken⟩

/-! ### ABORT (R72, Table 4-3) -/

theorem Slot.abort_waiting {sl : Slot} (h : sl.state = .fetching ∨ sl.state = .queued) :
    sl.abort = sl.settle .aborted ∧ sl.aborts = true := by
  rcases h with h | h <;> simp [Slot.abort, Slot.aborts, h]

theorem Slot.abort_onWire {sl : Slot} (h : sl.state = .onWire) :
    sl.abort = { sl with abortMark := true } ∧ sl.aborts = false := by
  simp [Slot.abort, Slot.aborts, h]

theorem Slot.abort_armed {sl : Slot} (h : sl.state = .armed) : sl.abort = sl.settle .idle ∧ sl.aborts = false := by
  simp [Slot.abort, Slot.aborts, h]

theorem Slot.abort_free {sl : Slot} (h : sl.state ∈ [SlotState.idle, .sent, .failed, .aborted]) :
    sl.abort = sl ∧ sl.aborts = false := by
  simp only [List.mem_cons, List.not_mem_nil, or_false] at h
  rcases h with h | h | h | h <;> simp [Slot.abort, Slot.aborts, h]

section
variable (s : State) (l : LinkId) (i : SlotId)

theorem State.abortSlot_sender : (s.abortSlot l i).sender l =
    { s.sender l with
      slots := update (s.sender l).slots i Slot.abort
      queue := if (s.slot l i).state = .queued then dropItem (.slot i) (s.sender l).queue else (s.sender l).queue } :=
  look_update_self _ _ _

theorem State.abortSlot_slot : (s.abortSlot l i).slot l i = (s.slot l i).abort := by
  rw [State.slot, State.abortSlot_sender]
  exact look_update_self _ _ _

theorem State.abortSlot_otherSlot {j : SlotId} (h : j ≠ i) : (s.abortSlot l i).slot l j = s.slot l j := by
  rw [State.slot, State.abortSlot_sender]
  exact look_update_of_ne _ _ h.symm

theorem State.abortSlot_queue : ((s.abortSlot l i).sender l).queue =
    if (s.slot l i).state = .queued then dropItem (.slot i) (s.sender l).queue else (s.sender l).queue :=
  congrArg SendCtl.queue (s.abortSlot_sender l i)

/-- Only a slot that becomes ABORTED raises cause SENT (R69). -/
theorem State.abortSlot_status (h : (s.slot l i).aborts = false) : (s.abortSlot l i).status = s.status := by
  rw [State.abortSlot, State.raiseIf_eq, h]
  rfl

end

/-- Settles O30: the abort as a transfer of its own, and Table 4-3 for its slot. -/
theorem abortBySlotState : Obligations.AbortBySlotState := by
  intro l i id s h sl
  obtain ⟨x, -, htaken⟩ := State.slotRequest_taken h rfl (.inl rfl)
  rw [State.slotRequest_abort] at htaken
  obtain ⟨hdrive, hreceive, hplan, hothers, -⟩ :=
    (s.abortSlot_linkSide l i).onlyLink ((State.raiseIf_raised _ _ _).after (.of_same rfl))
  refine ⟨_, congrArg Host.Outcome.next htaken, rfl, rfl, hdrive, hreceive, hplan, hothers,
    fun j hj => s.abortSlot_otherSlot l i hj, fun hwaiting => ?_, fun hqueued => ?_, fun hother => ?_, fun honWire => ?_,
    fun harmed => ?_, fun hfree => ?_⟩
  · obtain ⟨habort, haborts⟩ := Slot.abort_waiting hwaiting
    have hslot := (s.abortSlot_slot l i).trans habort
    exact ⟨congrArg Slot.state hslot, congrArg Slot.fetch hslot, congrArg Slot.body hslot, State.raiseIf_caused _ _ haborts⟩
  · exact (s.abortSlot_queue l i).trans (if_pos hqueued)
  · exact (s.abortSlot_queue l i).trans (if_neg hother)
  · obtain ⟨habort, haborts⟩ := Slot.abort_onWire honWire
    exact ⟨(s.abortSlot_slot l i).trans habort, s.abortSlot_status l i haborts⟩
  · obtain ⟨habort, haborts⟩ := Slot.abort_armed harmed
    have hslot := (s.abortSlot_slot l i).trans habort
    exact ⟨congrArg Slot.state hslot, congrArg Slot.armedTag hslot, s.abortSlot_status l i haborts⟩
  · obtain ⟨habort, haborts⟩ := Slot.abort_free hfree
    exact ⟨(s.abortSlot_slot l i).trans habort, s.abortSlot_status l i haborts⟩

/-! ### ABORT_ALL (R79, R116) -/

theorem exec_abortAll {s : State} {l : LinkId} {id : TransferId} {a : Addr} (hnow : s.takesNow = true)
    (ha : s.plan.windowAddr (.post l) 4 = some a) (hsees : s.sees a (.abortAll l) = true) :
    exec (.abortAll l id) s = .next ((s.abortSends l).withEntry (triggerEntry id a 1 [])) := by
  obtain ⟨-, -, -, hstaged, -⟩ := s.takesNow_iff.mp hnow
  have hpath := (s.abortSends_linkSide l).samePath
  have hgrows : s.path.grows (s.abortSends l).path := by
    rw [hpath]
    exact Path.grows_refl _
  have htaken := s.trigger_taken id a 1 (.abortAll l) hnow hsees rfl rfl hgrows
  have hrequest : s.request (abortAllTransfer s.plan l id) = s.presentTransfer (wordWrite id a 1) := by
    rw [abortAllTransfer, ha]
    rfl
  refine congrArg Host.Outcome.next ((hrequest.trans htaken).trans ?_)
  exact State.commit_of_empty _ ((congrArg Path.staged hpath).trans hstaged)

/-- The entry is given up by an abort of everything (R116): it waits in the request queue, or its ASK in the send queue. -/
def State.givesUpPoll (s : State) (l : LinkId) (p : PollId) : Bool :=
  (s.pollQueue l).contains p || (s.sender l).queuedAsk == some p

theorem SendCtl.queuedAsk_eq_some (c : SendCtl) (p : PollId) :
    c.queuedAsk = some p ↔ ∃ x, c.pollAsk = some x ∧ x.entry = p ∧ x.onWire = false := by
  unfold SendCtl.queuedAsk
  cases c.pollAsk with
  | none => simp
  | some a => cases h : a.onWire <;> simp [h]

theorem State.givesUpPoll_iff (s : State) (l : LinkId) (p : PollId) : s.givesUpPoll l p = true ↔
    (s.pollQueue l).contains p = true ∨ ∃ x, (s.sender l).pollAsk = some x ∧ x.entry = p ∧ x.onWire = false := by
  rw [State.givesUpPoll, Bool.or_eq_true, beq_iff_eq, SendCtl.queuedAsk_eq_some]

section
variable (s : State) (l : LinkId)

theorem State.abortSends_sender : (s.abortSends l).sender l = (s.sender l).abortAll := look_update_self _ _ _

theorem State.abortSends_pollQueue : (s.abortSends l).pollQueue l = [] := look_update_self _ _ _

theorem State.abortSends_pollEntry (p : PollId) : (s.abortSends l).pollEntry p =
    if s.givesUpPoll l p then (s.pollEntry p).unsent else s.pollEntry p := look_updateAll _ _ _

/-- A slot that becomes ABORTED raises cause SENT (R69, R79). -/
theorem State.abortSends_caused {i : SlotId} (h : (s.slot l i).aborts = true) : (s.abortSends l).caused .sent = true := by
  refine State.raiseIf_caused _ _ (List.any_eq_true.mpr ⟨s.slot l i, ?_, h⟩)
  exact Vector.mem_toList_iff.mpr (Vector.getElem_mem i.isLt)

end

/-- Settles O31: the effect of abort-all on the slots, both queues, the ASK and the poll entries. -/
theorem abortAllEmptiesLink : Obligations.AbortAllEmptiesLink := by
  intro l id a s hnow ha hsees
  have hsender := s.abortSends_sender l
  obtain ⟨hdrive, hreceive, hplan, hothers, -⟩ := (s.abortSends_linkSide l).onlyLink (s.abortSends_raised l)
  refine ⟨_, exec_abortAll hnow ha hsees, rfl, hdrive, hreceive, hplan, hothers, congrArg SendCtl.slots hsender,
    congrArg SendCtl.queue hsender, s.abortSends_pollQueue l, fun ⟨i, hi⟩ => ?_, fun x hx => ?_, fun p hp => ?_,
    fun p hqueue hask => ?_⟩
  · obtain ⟨-, haborts⟩ := Slot.abort_waiting hi
    exact s.abortSends_caused l haborts
  · refine (congrArg SendCtl.pollAsk hsender).trans ?_
    rw [SendCtl.abortAll, hx]
    rfl
  · exact (s.abortSends_pollEntry l p).trans (if_pos ((s.givesUpPoll_iff l p).mpr hp))
  · refine (s.abortSends_pollEntry l p).trans (if_neg fun hgone => ?_)
    rcases (s.givesUpPoll_iff l p).mp hgone with hwaits | ⟨x, hx, hentry, hoff⟩
    · exact Bool.false_ne_true (hqueue.symm.trans hwaits)
    · exact Bool.false_ne_true (hoff.symm.trans (hask x hx hentry))

end Sys2Proof.Machine
end

section
/-! Slot fetches completed (O32); standing answers and alarm requests (O33). -/

namespace Sys2Proof.Machine

/-! ### The completion of a slot's fetch (R74, Table 4-4) -/

section
variable {s : State} {nth : Nat} {r : Request} {l : LinkId} {i : SlotId} {n : Nat} {code : DownCode} {data : List Word}

/-- The state in which the transfer `nth` is over and its slot has taken the completion. -/
def State.slotFetched (s : State) (nth : Nat) (l : LinkId) (i : SlotId) (code : DownCode) (data : List Word) : State :=
  (s.complete nth code).changeSlot l i fun sl => sl.fetched code data

theorem State.complete_kept (s : State) (nth : Nat) (code : DownCode) :
    sameDrive s (s.complete nth code) ∧ sameLinks s (s.complete nth code) := by
  cases code <;> exact ⟨⟨rfl, rfl, rfl, rfl⟩, rfl, rfl⟩

theorem State.complete_slot (s : State) (nth : Nat) (code : DownCode) (l : LinkId) (i : SlotId) :
    (s.complete nth code).slot l i = s.slot l i := by
  cases code <;> rfl

/-- The completion of the fetch a slot waits for, where the link cannot take the head of its queue. -/
theorem exec_slotFetchComplete (hrun : s.running = true) (hr : s.path.inFlight[nth]? = some r)
    (hpurpose : r.purpose = .fetch l i n) (hbeats : r.beats = data.length) (hstate : (s.slot l i).state = .fetching)
    (hfetch : (s.slot l i).fetch = some n) (htake : (s.link l).canTake = false) :
    exec (.slotFetchComplete nth code data) s = .next (s.slotFetched nth l i code data) := by
  have hanswered : s.answeredPurpose nth code data.length = some (.fetch l i n) := by
    simp [State.answeredPurpose, Path.answered, hr, hbeats, hpurpose]
  have hawaits : ((s.complete nth code).slot l i).awaits n = true := by
    rw [State.complete_slot]
    exact (Slot.awaits_iff _ n).mpr ⟨hstate, hfetch⟩
  have hlink : ((s.slotFetched nth l i code data).link l).canTake = false := by
    obtain ⟨-, hlinks, -⟩ := s.complete_kept nth code
    exact (congrArg (fun ks => (look ks l).canTake) hlinks).trans htake
  have heffect : s.slotFetchCompletes nth code data = s.slotFetched nth l i code data := by
    rw [State.slotFetchCompletes, hanswered]
    dsimp only
    rw [State.fetchCompleted, if_pos hawaits]
    exact State.kick_idle (.inl hlink)
  refine congrArg Host.Outcome.next ((s.event_eq _ hrun ?_).trans heffect)
  rw [heffect]
  exact (congrArg Path.staged (s.complete_path nth code)).trans (State.running_staged hrun)

end

/-- A slot that is QUEUED after a change joins the send queue at the place its body and acceptance give (R75). -/
theorem SendCtl.changeSlot_of_queued (c : SendCtl) (i : SlotId) {f g : Slot → Slot} {b : Body}
    (h : f (look c.slots i) = g (look c.slots i)) (hstate : (g (look c.slots i)).state = .queued)
    (hbody : (g (look c.slots i)).body = some b) : c.changeSlot i f =
      { c with
        slots := update c.slots i g
        queue := insertItem c.acceptCount ⟨.slot i, b.priority, (g (look c.slots i)).acceptance⟩ c.queue } := by
  have hslots : update c.slots i f = update c.slots i g := update_congr _ _ h
  simp [SendCtl.changeSlot, SendCtl.modSlot, hslots, hstate, SendCtl.enqueueSlot, hbody, SendCtl.join]

/-- A slot that is not QUEUED after a change leaves the queue. -/
theorem SendCtl.changeSlot_of_not_queued (c : SendCtl) (i : SlotId) {f g : Slot → Slot}
    (h : f (look c.slots i) = g (look c.slots i)) (hstate : (g (look c.slots i)).state ≠ .queued) :
    c.changeSlot i f = { c with slots := update c.slots i g } := by
  have hslots : update c.slots i f = update c.slots i g := update_congr _ _ h
  simp [SendCtl.changeSlot, SendCtl.modSlot, hslots, hstate]

theorem SendCtl.changeSlot_queue (c : SendCtl) (i : SlotId) {f : Slot → Slot}
    (h : (f (look c.slots i)).state ≠ .queued) : (c.changeSlot i f).queue = c.queue := by
  rw [SendCtl.changeSlot_of_not_queued c i rfl h]

/-- A slot that does not end changes its Send Controller alone. -/
theorem State.changeSlot_of_not_ended {s : State} {l : LinkId} {i : SlotId} {f : Slot → Slot} {g : SendCtl → SendCtl}
    (h : (f (s.slot l i)).state.ended = false) (hg : (s.sender l).changeSlot i f = g (s.sender l)) :
    s.changeSlot l i f = { s with senders := update s.senders l g } := by
  have hsenders : update s.senders l (fun c => c.changeSlot i f) = update s.senders l g := update_congr _ _ hg
  rw [State.changeSlot, State.raiseIf_eq, h, State.modSender, hsenders]
  rfl

/-! ### What a completion makes of a slot (Table 4-4) -/

section
variable {sl : Slot} {data : List Word} {b : Body}

/-- The slot with its body fetched, as it joins the queue. -/
def Slot.queuedWith (sl : Slot) (b : Body) : Slot := { sl with state := .queued, fetch := none, body := some b }

theorem Slot.usableBody_of_valid (hb : fetchedBody data = some b) (h : sl.purpose ≠ .answer ∨ b.kind ≠ .ask) :
    sl.usableBody data = some b := by
  rcases h with h | h <;> simp [Slot.usableBody, hb, h]

theorem Slot.usableBody_of_invalid (h : ∀ b, fetchedBody data = some b → sl.purpose = .answer ∧ b.kind = .ask) :
    sl.usableBody data = none := by
  rw [Slot.usableBody, Option.filter_eq_none_iff]
  intro b hb
  obtain ⟨hpurpose, hkind⟩ := h b hb
  simp [hpurpose, hkind]

/-- A fetch for a message, not one that arms an ANSWER. -/
def Slot.fetchesMessage (sl : Slot) : Prop := sl.purpose = .answer → sl.armedTag ≠ none

theorem Slot.fetched_okay (h : sl.fetchesMessage) : sl.fetched .okay data =
    match sl.usableBody data with
    | none => sl.fail .body
    | some b => sl.queuedWith b := by
  unfold Slot.fetched
  split
  · contradiction
  · contradiction
  next hpurpose harmed => exact absurd harmed (h hpurpose)
  · rfl

theorem Slot.fetched_other (h : sl.purpose ≠ .answer) : sl.fetched .other data = sl.fail .memory := by
  unfold Slot.fetched
  split
  next hanswer _ => exact absurd hanswer h
  · rfl
  · contradiction
  · contradiction

/-- The fetch of an ANSWER without a Tag arms its slot under the Tag fetched (R71). -/
theorem Slot.fetched_arms (h : sl.purpose = .answer) (htag : sl.armedTag = none) : sl.fetched .okay data =
    { sl with
      state := .armed, armedTag := some (fetchedTag data), abortMark := false, fetch := none, body := none } := by
  simp [Slot.fetched, h, htag, Slot.settle]

/-- The fetch of an answer to an ASK that MEMERR ends leaves the slot standing under its Tag (R82). -/
theorem Slot.fetched_rearms {tag : Tag} (h : sl.purpose = .answer) (htag : sl.armedTag = some tag) :
    sl.fetched .other data = { sl with state := .armed, abortMark := false, fetch := none, body := none } := by
  simp [Slot.fetched, h, htag, Slot.settle]

end

section
variable {s : State} {nth : Nat} {l : LinkId} {i : SlotId} {code : DownCode} {data : List Word}

/-- A slot that a completion makes FAILED: it holds no Tag, it stays out of the queue, and cause SENT is raised (R68, R69). -/
theorem State.slotFetched_failed {reason : FailReason} (h : (s.slot l i).fetched code data = (s.slot l i).fail reason) :
    let t := s.slotFetched nth l i code data
    t.path = { s.path with inFlight := s.path.inFlight.eraseIdx nth } ∧ t.slot l i = (s.slot l i).fail reason
      ∧ (t.sender l).queue = (s.sender l).queue ∧ t.caused .sent = true ∧ sameDrive s t ∧ t.links = s.links
      ∧ statusOnlyRaised (s.complete nth code) t := by
  intro t
  obtain ⟨hdrive, hlinks, hsenders⟩ := s.complete_kept nth code
  have hslot := s.complete_slot nth code l i
  have hfetched : ((s.complete nth code).slot l i).fetched code data = (s.slot l i).fail reason := by rw [hslot, h]
  have hsender : (s.complete nth code).sender l = s.sender l := congrArg (look · l) hsenders
  refine ⟨s.complete_path nth code, (State.changeSlot_slot _ l i _).trans hfetched, ?_,
    State.changeSlot_caused _ l i (congrArg (fun x : Slot => x.state.ended) hfetched), hdrive, hlinks,
    State.changeSlot_raised _ l i _⟩
  have hqueue := SendCtl.changeSlot_queue ((s.complete nth code).sender l) i (f := fun x => x.fetched code data)
    (ne_of_eq_of_ne (congrArg Slot.state hfetched) nofun)
  change ((s.slotFetched nth l i code data).sender l).queue = _
  rw [State.slotFetched, State.changeSlot_sender, hqueue, hsender]

/-- A slot whose body is fetched joins the queue, and nothing else changes (R75). -/
theorem State.slotFetched_queued {b : Body} (h : (s.slot l i).fetched .okay data = (s.slot l i).queuedWith b) :
    s.slotFetched nth l i .okay data =
      { s.landed nth with
        senders := update s.senders l fun c =>
          { c with
            slots := update c.slots i fun x => x.queuedWith b
            queue := insertItem c.acceptCount ⟨.slot i, b.priority, (s.slot l i).acceptance⟩ c.queue } } := by
  have hended : ((s.slot l i).fetched .okay data).state.ended = false := congrArg (fun x : Slot => x.state.ended) h
  have hjoins := SendCtl.changeSlot_of_queued (s.sender l) i (f := fun x => x.fetched .okay data)
    (g := fun x => x.queuedWith b) (b := b) h rfl rfl
  exact State.changeSlot_of_not_ended (s := s.landed nth)
    (g := fun c =>
      { c with
        slots := update c.slots i fun x => x.queuedWith b
        queue := insertItem c.acceptCount ⟨.slot i, b.priority, (s.slot l i).acceptance⟩ c.queue }) hended hjoins

/-- A slot that a completion leaves ARMED changes alone. -/
theorem State.slotFetched_armed {g : Slot → Slot} (h : (s.slot l i).fetched code data = g (s.slot l i))
    (hstate : (g (s.slot l i)).state = .armed) : s.slotFetched nth l i code data =
      { s.complete nth code with
        senders := update (s.complete nth code).senders l fun c => { c with slots := update c.slots i g } } := by
  have hslot := s.complete_slot nth code l i
  have hfetched : ((s.complete nth code).slot l i).fetched code data = g ((s.complete nth code).slot l i) := by
    rw [hslot, h]
  have harmed : (g ((s.complete nth code).slot l i)).state = .armed := by rw [hslot, hstate]
  refine State.changeSlot_of_not_ended ?_ (SendCtl.changeSlot_of_not_queued _ i hfetched ?_)
  · rw [hfetched, harmed]
    rfl
  · change (g ((s.complete nth code).slot l i)).state ≠ .queued
    rw [harmed]
    exact nofun

end

/-- Settles O32: the completion is the slot's change by Table 4-4, since its link takes nothing. -/
theorem fetchCompletionByPurpose : Obligations.FetchCompletionByPurpose := by
  intro s nth r l i n data hrun hr hpurpose _ hbeats hstate hfetch htake sl c path
  have hexec (code : DownCode) : exec (.slotFetchComplete nth code data) s = .next (s.slotFetched nth l i code data) :=
    exec_slotFetchComplete hrun hr hpurpose hbeats hstate hfetch htake
  have hqueued {b : Body} (h : sl.fetched .okay data = sl.queuedWith b) :=
    (hexec .okay).trans (congrArg Host.Outcome.next (State.slotFetched_queued h))
  refine ⟨fun b hsend hb => ?_, fun hsend hb => ?_, fun hsend => ?_, fun hanswer htag => ?_,
    fun tag hanswer htag => ⟨fun b hb hkind => ?_, fun hask => ?_, ?_⟩⟩
  · refine hqueued ?_
    rw [Slot.fetched_okay fun h => absurd h hsend, Slot.usableBody_of_valid hb (.inl hsend)]
  · have hfail : sl.fetched .okay data = sl.fail .body := by
      rw [Slot.fetched_okay fun h => absurd h hsend, Slot.usableBody_of_invalid (by simp [hb])]
    obtain ⟨hpath, hslot, hqueue, hcaused, hdrive, hlinks, -⟩ := State.slotFetched_failed (nth := nth) hfail
    exact ⟨_, hexec .okay, hpath, congrArg Slot.state hslot, congrArg Slot.failReason hslot, hqueue, hcaused, hdrive,
      hlinks⟩
  · obtain ⟨hpath, hslot, hqueue, hcaused, hdrive, hlinks, hraised⟩ :=
      State.slotFetched_failed (nth := nth) (Slot.fetched_other (data := data) hsend)
    have ⟨hstatus, _⟩ := hraised
    exact ⟨_, hexec .other, hpath, congrArg Slot.state hslot, congrArg Slot.failReason hslot, hqueue, hcaused,
      hraised.caused (State.raise_caused _ _), congrArg StatusUnit.memoryErrors hstatus, hdrive, hlinks⟩
  · refine (hexec .okay).trans (congrArg Host.Outcome.next ?_)
    refine State.slotFetched_armed (g := fun x =>
      { x with
        state := .armed, armedTag := some (fetchedTag data), abortMark := false, fetch := none, body := none }) ?_ rfl
    exact Slot.fetched_arms hanswer htag
  · refine hqueued ?_
    rw [Slot.fetched_okay fun _ => by simp [sl, htag], Slot.usableBody_of_valid hb (.inr hkind)]
  · have hfail : sl.fetched .okay data = sl.fail .body := by
      rw [Slot.fetched_okay fun _ => by simp [sl, htag], Slot.usableBody_of_invalid fun b hb => ⟨hanswer, hask b hb⟩]
    obtain ⟨hpath, hslot, hqueue, hcaused, -⟩ := State.slotFetched_failed (nth := nth) hfail
    exact ⟨_, hexec .okay, hpath, congrArg Slot.state hslot, congrArg Slot.failReason hslot,
      congrArg Slot.armedTag hslot, hqueue, hcaused⟩
  · refine (hexec .other).trans (congrArg Host.Outcome.next ?_)
    exact State.slotFetched_armed (g := fun x =>
      { x with state := .armed, abortMark := false, fetch := none, body := none })
      (Slot.fetched_rearms hanswer htag) rfl

/-! ### The slots that consume an ASK (R81) -/

/-- The lowest slot that satisfies a condition. -/
theorem SendCtl.findSlot_eq_some {c : SendCtl} {f : Slot → Bool} {i : SlotId} (h : f (look c.slots i) = true)
    (hlowest : ∀ j < i, f (look c.slots j) = false) : c.findSlot f = some i := by
  refine List.find?_eq_some_iff_getElem.mpr ⟨h, i.val, by simp, by simp, fun j hj => ?_⟩
  simpa using hlowest ⟨j, hj.trans i.isLt⟩ hj

theorem SendCtl.findSlot_isSome {c : SendCtl} {f : Slot → Bool} :
    (c.findSlot f).isSome = true ↔ ∃ i, f (look c.slots i) = true := by
  simp [SendCtl.findSlot]

section
variable (c : SendCtl) (t : Tag)

/-- The slot is ARMED with the Tag. -/
def Slot.armedWith (sl : Slot) (t : Tag) : Bool := sl.state == .armed && sl.standsWith t

theorem Slot.armedWith_iff (sl : Slot) : sl.armedWith t = true ↔ sl.state = .armed ∧ sl.armedTag = some t := by
  simp [Slot.armedWith, Slot.standsWith]

theorem Slot.answers_iff (sl : Slot) : (sl.answering && sl.standsWith t) = true ↔
    sl.state ∈ [SlotState.fetching, .queued, .onWire] ∧ sl.purpose = .answer ∧ sl.armedTag = some t := by
  simp only [Slot.answering, Slot.standsWith, SlotState.owned, Bool.and_eq_true, Bool.or_eq_true, beq_iff_eq,
    List.mem_cons, List.not_mem_nil, or_false]
  constructor
  · rintro ⟨⟨⟨hpurpose, -⟩, howned⟩, htag⟩
    exact ⟨or_assoc.mp howned, hpurpose, htag⟩
  · rintro ⟨howned, hpurpose, htag⟩
    exact ⟨⟨⟨hpurpose, by rw [htag]; rfl⟩, or_assoc.mpr howned⟩, htag⟩

theorem SendCtl.armedFor_eq_none (h : ∀ i, (look c.slots i).armedWith t = false) : c.armedFor t = none := by
  refine Option.not_isSome_iff_eq_none.mp fun hsome => ?_
  obtain ⟨i, hi⟩ := SendCtl.findSlot_isSome.mp hsome
  exact Bool.false_ne_true ((h i).symm.trans hi)

theorem SendCtl.answeringFor_iff : c.answeringFor t = true ↔
    ∃ i, ((look c.slots i).answering && (look c.slots i).standsWith t) = true := SendCtl.findSlot_isSome

end

/-- A fetch submitted at the event that changes its Send Controller reads the slot's place in the POST window (R74). -/
theorem State.modSender_submitFetch {s : State} {l : LinkId} {i : SlotId} {a : Addr}
    (h : s.plan.windowAddr (.post l) (64 + 32 * i.val) = some a) (f : SendCtl → SendCtl) (n : Nat) :
    (s.modSender l f).submitFetch l i n = (s.modSender l f).submit ⟨.fetch l i n, false, a, 8, []⟩ := by
  have haddr : (s.modSender l f).plan.windowAddr (.post l) (slotOffset i) = some a := h
  rw [State.submitFetch, haddr]

section
variable {s : State} {l : LinkId} {m : Message}

theorem State.routeGood_ask (h : m.kind = .ask) (now : Stamp) : s.routeGood l m now =
    if (s.sender l).consumes m.tag then s.consumeAsk l m.tag else s.sift l m now := by
  rw [State.routeGood, h]

/-- An ASK of an ARMED slot's Tag starts that slot's answer (R81). -/
theorem State.routeGood_armed (h : m.kind = .ask) {i : SlotId} (harmed : (s.sender l).armedFor m.tag = some i)
    (now : Stamp) : s.routeGood l m now =
      (s.modSender l fun c => c.startAnswer i).submitFetch l i (s.sender l).fetchSerial := by
  rw [State.routeGood_ask h, if_pos (by rw [SendCtl.consumes, harmed]; rfl), State.consumeAsk, harmed]

/-- An ASK that a slot is answering already is merged (R81). -/
theorem State.routeGood_answering (h : m.kind = .ask) (harmed : (s.sender l).armedFor m.tag = none)
    (hanswering : (s.sender l).answeringFor m.tag = true) (now : Stamp) :
    s.routeGood l m now = s.bump (.link l .mergedAsks) := by
  rw [State.routeGood_ask h, if_pos (by rw [SendCtl.consumes, hanswering, Bool.or_true]), State.consumeAsk, harmed]

/-- Any other ASK goes on to the sieves (R87). -/
theorem State.routeGood_unconsumed (h : m.kind = .ask) (harmed : (s.sender l).armedFor m.tag = none)
    (hanswering : (s.sender l).answeringFor m.tag = false) (now : Stamp) : s.routeGood l m now = s.sift l m now := by
  rw [State.routeGood_ask h, if_neg (by simp [SendCtl.consumes, harmed, hanswering])]

end

theorem State.bump_mergedAsks (s : State) (l : LinkId) : s.bump (.link l .mergedAsks) =
    s.modSender l fun c => { c with mergedAsks := satInc c.mergedAsks } :=
  congrArg (fun cs => { s with senders := cs }) (update_congr _ _ rfl)

theorem State.bump_unrouted (s : State) (l : LinkId) : s.bump (.link l .unrouted) =
    s.modRouter l fun q => { q with unrouted := satInc q.unrouted } :=
  congrArg (fun qs => { s with routers := qs }) (update_congr _ _ rfl)

theorem State.bump_alarmsMerged (s : State) (c : ChanId) : s.bump (.alarmsMerged c) =
    s.modChan c fun ch => { ch with alarmsMerged := satInc ch.alarmsMerged } :=
  congrArg (fun cs => { s with chans := cs }) (update_congr _ _ rfl)

/-! ### Alarm requests (R83) -/

theorem State.alarmAccepted_iff (s : State) (l : LinkId) (i : SlotId) : s.alarmAccepted l i = true ↔
    (s.slot l i).state ∈ [SlotState.idle, .sent, .failed, .aborted] ∧ (s.link l).mode ≠ .setup := by
  simp [State.alarmAccepted, SlotState.free, SlotState.ended, or_assoc]

section
variable {s : State} {c : ChanId} {set : DriveSettings} {l : LinkId} {i : SlotId}
  (hset : s.driveSettings c = some set) (halarm : set.alarm = some (l, i))
include hset halarm

/-- The alarm request of a channel whose settings name a slot (R83). -/
theorem State.alarmRequest_eq : s.alarmRequest c =
    if s.alarmAccepted l i then
      (s.modSender l fun k => k.acceptFetch i .alarm).submitFetch l i (s.sender l).fetchSerial
    else s.bump (.alarmsMerged c) := by
  have hslot : (s.driveSettings c).bind (·.alarm) = some (l, i) := by rw [hset]; exact halarm
  rw [State.alarmRequest, hslot]

end

/-- Settles O33: what consumes an ASK (R81), and an alarm request by the state of the slot it names (R83). -/
theorem standingAnswersAndAlarms : Obligations.StandingAnswersAndAlarms := by
  refine ⟨fun s l m now hask => ?_, fun s c => ⟨fun set l i hset halarm => ?_, fun hnone => ?_⟩⟩
  · intro armed answering
    have harmedIff (i : SlotId) : (s.slot l i).armedWith m.tag = true ↔ armed i := Slot.armedWith_iff _ _
    have hfalse (i : SlotId) (h : ¬ armed i) : (s.slot l i).armedWith m.tag = false :=
      Bool.not_eq_true _ ▸ fun htrue => h ((harmedIff i).mp htrue)
    refine ⟨fun i a harmed hlowest ha => ?_, fun hnone hanswers => ?_, fun hneither hsieve => ?_⟩
    · have hfound : (s.sender l).armedFor m.tag = some i :=
        SendCtl.findSlot_eq_some ((harmedIff i).mpr harmed) fun j hj => hfalse j (hlowest j hj)
      rw [State.routeGood_armed hask hfound, State.modSender_submitFetch ha]
      rfl
    · have hanswering : (s.sender l).answeringFor m.tag = true := by
        obtain ⟨i, hi⟩ := hanswers
        exact (SendCtl.answeringFor_iff _ _).mpr ⟨i, (Slot.answers_iff _ _).mpr hi⟩
      rw [State.routeGood_answering hask (SendCtl.armedFor_eq_none _ _ fun i => hfalse i (hnone i)) hanswering,
        State.bump_mergedAsks]
    · have hanswering : (s.sender l).answeringFor m.tag = false := by
        rw [← Bool.not_eq_true, SendCtl.answeringFor_iff]
        rintro ⟨i, hi⟩
        obtain ⟨-, hnot⟩ := hneither i
        exact hnot ((Slot.answers_iff _ _).mp hi)
      have harmed : (s.sender l).armedFor m.tag = none := SendCtl.armedFor_eq_none _ _ fun i =>
        have ⟨hunarmed, _⟩ := hneither i
        hfalse i hunarmed
      rw [State.routeGood_unconsumed hask harmed hanswering, State.sift, hsieve]
      exact s.bump_unrouted l
  · intro accepted
    rw [State.alarmRequest_eq hset halarm]
    refine ⟨fun a haccepted ha => ?_, fun hrefused => ?_⟩
    · rw [if_pos ((s.alarmAccepted_iff l i).mpr haccepted), State.modSender_submitFetch ha]
      rfl
    · rw [if_neg fun h => hrefused ((s.alarmAccepted_iff l i).mp h), State.bump_alarmsMerged]
  · rw [State.alarmRequest, hnone]

end Sys2Proof.Machine
end

section
/-! The outcome of a poll ASK on the wire and the poll sender's next take (O34). -/

namespace Sys2Proof.Machine

/-! ### The item on the wire under the levels read (log 9) -/

/-- What the item on the wire is. -/
def LinkCtl.itemRef (k : LinkCtl) : Option ItemRef := k.item.map (·.ref)

theorem LinkCtl.track_itemRef (k : LinkCtl) (b : Level) : (k.track b).1.itemRef = k.itemRef := by
  unfold LinkCtl.track
  split
  · split
    · cases b with
      | recessive => rfl
      | dominant =>
        unfold LinkCtl.trackQuiet
        dsimp only
        split <;> rfl
    · rfl
  · split
    · rfl
    · unfold LinkCtl.trackPhase
      cases k.phase with
      | gapWait | idle => cases b <;> rfl
      | sending => exact Option.map_map ..
      | receiving | marking | detached => rfl

theorem LinkCtl.advance_itemRef {k k' : LinkCtl} {e : WireEvent} {bs : List Level} (h : k.advance bs = some (k', e)) :
    k'.itemRef = k.itemRef := by
  fun_induction LinkCtl.advance k bs with
  | case1 k => cases h
  | case2 k b =>
    obtain rfl : (k.track b).1 = k' := congrArg Prod.fst (Option.some.inj h)
    exact k.track_itemRef b
  | case3 k b bs _ k₁ htrack ih =>
    have hfirst := k.track_itemRef b
    rw [htrack] at hfirst
    exact (ih h).trans hfirst
  | case4 k b bs _ _ => cases h

theorem State.after_itemRef {s : State} {l : LinkId} {levels : List Level} {e : WireEvent}
    (h : s.brings l levels e = true) : (s.after l levels).itemRef = (s.link l).itemRef :=
  LinkCtl.advance_itemRef ((s.brings_iff l levels e).mp h)

/-! ### The poll sender's take (R84) -/

/-- From `s` to `t` a poll sender left without an ASK has taken the head of its request queue, where there is one, and
enqueued its ASK. -/
def State.nextPoll (s t : State) (l : LinkId) : Prop :=
  (s.pollQueue l = [] → t.sender l = { s.sender l with pollAsk := none })
  ∧ (∀ p ps, s.pollQueue l = p :: ps → t.pollQueue l = ps ∧ t.sender l = s.withAsk l p)

section
variable {s : State} {l : LinkId}

/-- The poll sender's take is all that happens where the link may not take the head of its send queue. -/
theorem State.pollTake_eq (htake : (s.link l).canTake = false) : s.pollTake l =
    { s with
      senders := update s.senders l fun c =>
        match s.pollTakes l with
        | none => c
        | some p => c.enqueueAsk p (((s.pollSettings p).map (·.tag)).getD 0) (s.linkSettings l).pollPriority
      poll := { s.poll with
        queues := update s.poll.queues l fun q => if (s.pollTakes l).isSome then q.tail else q } } :=
  State.kick_idle (.inl htake)

/-- A poll sender that takes no entry changes nothing. -/
theorem State.pollTake_none (htake : (s.link l).canTake = false) (h : s.pollTakes l = none) : s.pollTake l = s := by
  have hsame {α : Type} {n : Nat} (v : Vector α n) (i : Fin n) : update v i (fun a => a) = v := update_eq_self v i rfl
  rw [State.pollTake_eq htake, h]
  simp [hsame]

/-- A poll sender that takes an entry has enqueued its ASK. -/
theorem State.pollTake_some (htake : (s.link l).canTake = false) {p : PollId} (h : s.pollTakes l = some p) :
    (s.pollTake l).sender l = s.withAsk l p ∧ (s.pollTake l).pollQueue l = (s.pollQueue l).tail := by
  rw [State.pollTake_eq htake, h]
  exact ⟨(look_update_self _ _ _).trans (s.enqueueAsk_eq_withAsk l p), look_update_self _ _ _⟩

theorem State.pollTakes_held (h : (s.sender l).pollAsk.isSome = true) : s.pollTakes l = none := by
  refine if_neg fun hnone => ?_
  rw [Option.isNone_iff_eq_none.mp hnone] at h
  cases h

theorem State.pollTakes_free (h : (s.sender l).pollAsk = none) : s.pollTakes l = (s.pollQueue l).head? := by
  rw [State.pollTakes, h]
  rfl

end

/-! ### What an outcome makes of a poll ASK and of its entry (R85, R111, Table 4-9) -/

section
variable (a : PollAsk) (limit : Nat)

theorem PollAsk.rejoins_iff (o : Outcome) : a.rejoins limit o = true ↔ a.abandoned = false ∧ a.abortMark = false ∧
    (o = .lost ∨ o = .error ∧ retryAllows limit (satInc a.attempts) = true) := by
  cases o <;> simp [PollAsk.rejoins, Outcome.attempts, and_assoc]

variable (expiry : Stamp) (e : PollEntry)

theorem PollAsk.entryAfter_abandoned (h : a.abandoned = true) (o : Outcome) : a.entryAfter limit o expiry e = e :=
  if_pos h

theorem PollAsk.entryAfter_sent (h : a.abandoned = false) : a.entryAfter limit .sent expiry e = e.waits expiry := by
  simp [PollAsk.entryAfter, h]

theorem PollAsk.entryAfter_rejoins {o : Outcome} (h : a.rejoins limit o = true) : a.entryAfter limit o expiry e = e := by
  have hsent : o ≠ .sent := by
    rintro rfl
    simp [PollAsk.rejoins] at h
  simp [PollAsk.entryAfter, hsent, h]

theorem PollAsk.entryAfter_givenUp {o : Outcome} (h : a.abandoned = false) (hsent : o ≠ .sent)
    (hr : a.rejoins limit o = false) : a.entryAfter limit o expiry e = e.unsent := by
  simp [PollAsk.entryAfter, h, hsent, hr]

end

section
variable {s : State} {l : LinkId} {a : PollAsk} (hask : (s.sender l).pollAsk = some a) (o : Outcome)

/-- The state in which the outcome of the ASK has been applied, before the poll sender's next take. -/
def State.askEnded (s : State) (l : LinkId) (a : PollAsk) (o : Outcome) : State :=
  { s with
    senders := update s.senders l fun c => c.askOutcome (s.linkSettings l).retryLimit o
    poll := { s.poll with
      entries := update s.poll.entries a.entry
        (a.entryAfter (s.linkSettings l).retryLimit o (later s.now (s.replyTimeout a.entry))) } }

theorem State.askEnded_sender : (s.askEnded l a o).sender l =
    (s.sender l).askOutcome (s.linkSettings l).retryLimit o := look_update_self _ _ _

include hask

theorem State.askOutcome_eq : s.askOutcome l o = (s.askEnded l a o).pollTake l := by
  rw [State.askOutcome, hask]
  rfl

theorem State.askOutcome_entry : (s.askOutcome l o).pollEntry a.entry =
    a.entryAfter (s.linkSettings l).retryLimit o (later s.now (s.replyTimeout a.entry)) (s.pollEntry a.entry) := by
  rw [State.askOutcome_eq hask]
  exact look_update_self _ _ _

theorem State.askOutcome_otherEntry {p : PollId} (h : p ≠ a.entry) :
    (s.askOutcome l o).pollEntry p = s.pollEntry p := by
  rw [State.askOutcome_eq hask]
  exact look_update_of_ne _ _ h.symm

/-- An outcome that leaves the ASK's entry leaves all of them. -/
theorem State.askOutcome_entries (h : (s.askOutcome l o).pollEntry a.entry = s.pollEntry a.entry) :
    (s.askOutcome l o).poll.entries = s.poll.entries := by
  refine look_ext fun p => ?_
  by_cases hp : p = a.entry
  · exact hp ▸ h
  · exact State.askOutcome_otherEntry hask o hp

variable (htake : (s.link l).canTake = false)
include htake

/-- An ASK that may be sent again rejoins the queue at its place, and its entry is as it was (R85). -/
theorem State.askOutcome_rejoins (h : a.rejoins (s.linkSettings l).retryLimit o = true) :
    (s.askOutcome l o).poll = s.poll ∧ (s.askOutcome l o).sender l =
      { s.sender l with
        pollAsk := some { a with attempts := o.attempts a.attempts, onWire := false }
        queue := insertItem (s.sender l).acceptCount ⟨.poll, a.priority, a.acceptance⟩ (s.sender l).queue } := by
  have hsender : (s.askEnded l a o).sender l =
      { s.sender l with
        pollAsk := some { a with attempts := o.attempts a.attempts, onWire := false }
        queue := insertItem (s.sender l).acceptCount ⟨.poll, a.priority, a.acceptance⟩ (s.sender l).queue } := by
    rw [State.askEnded_sender, SendCtl.askOutcome, hask]
    exact if_pos h
  have hheld : (s.askEnded l a o).pollTakes l = none := State.pollTakes_held (by rw [hsender]; rfl)
  have hentries : update s.poll.entries a.entry
      (a.entryAfter (s.linkSettings l).retryLimit o (later s.now (s.replyTimeout a.entry))) = s.poll.entries :=
    update_eq_self _ _ (a.entryAfter_rejoins _ _ _ h)
  rw [State.askOutcome_eq hask, State.pollTake_none (s := s.askEnded l a o) htake hheld]
  exact ⟨congrArg (fun es => { s.poll with entries := es }) hentries, hsender⟩

/-- An ASK that has ended leaves the poll sender free for its next entry (R84). -/
theorem State.askOutcome_ends (h : a.rejoins (s.linkSettings l).retryLimit o = false) :
    s.nextPoll (s.askOutcome l o) l := by
  have hsender : (s.askEnded l a o).sender l = { s.sender l with pollAsk := none } := by
    rw [State.askEnded_sender, SendCtl.askOutcome, hask]
    exact if_neg (by rw [h]; decide)
  have hfree : (s.askEnded l a o).pollTakes l = (s.pollQueue l).head? := State.pollTakes_free (by rw [hsender])
  rw [State.askOutcome_eq hask]
  refine ⟨fun hq => ?_, fun p ps hq => ?_⟩
  · rw [State.pollTake_none (s := s.askEnded l a o) htake (hfree.trans (by rw [hq]; rfl)), hsender]
  · obtain ⟨htaken, hqueue⟩ := State.pollTake_some (s := s.askEnded l a o) htake (hfree.trans (by rw [hq]; rfl))
    refine ⟨hqueue.trans (congrArg List.tail hq), htaken.trans ?_⟩
    rw [State.withAsk, hsender]
    rfl

end

/-! ### The three outcomes as events of the line (R52, R54, R57) -/

/-- From `s` to `v` the line of link `l` has moved on and its ASK's item has come off, and the link may not take another. -/
structure Hands (s v : State) (l : LinkId) : Prop where
  canTake : (v.link l).canTake = false
  senders : v.senders = s.senders
  poll : v.poll = s.poll
  loader : v.loader = s.loader
  now : v.now = s.now

section
variable {s : State} {l : LinkId}

/-- The end of an ASK's item hands its outcome to the poll sender. -/
theorem State.endItem_poll (h : (s.link l).itemRef = some .poll) (o : Outcome) :
    s.endItem l o = (s.modLink l fun k => { k with item := none }).askOutcome l o := by
  obtain ⟨it, hitem, href⟩ := Option.map_eq_some_iff.mp h
  rw [State.endItem_some hitem, href]
  rfl

/-- A message that ends while no mode waits hands its ASK the outcome. -/
theorem State.endMessage_poll (hmode : (s.link l).mode = .run) (hpending : (s.link l).pendingMode = none)
    (h : (s.link l).itemRef = some .poll) (o : Outcome) :
    ∃ v, s.endMessage l o = v.askOutcome l o ∧ Hands s v l := by
  have hlink : (s.modLink l LinkCtl.waitGap).link l = (s.link l).waitGap := s.link_modLink_self l _
  refine ⟨(s.modLink l LinkCtl.waitGap).modLink l fun k => { k with item := none }, ?_, ?_, rfl, rfl, rfl, rfl⟩
  · rw [State.endMessage_eq hmode hpending, State.endItem_poll (by rw [hlink]; exact h)]
  · rw [State.link_modLink_self, hlink]
    exact LinkCtl.canTake_of_run hmode nofun

variable {levels : List Level} {e : WireEvent} (hb : s.brings l levels e = true) (hmode : (s.link l).mode = .run)
  (hpending : (s.link l).pendingMode = none) (href : (s.link l).itemRef = some .poll)
include hb hmode hpending href

theorem State.messageSent_poll :
    ∃ v, (s.heard l levels).messageSent l = v.askOutcome l .sent ∧ Hands s v l := by
  let u := (s.heard l levels).scored l .sent lowerScore
  have hside : LinkSide l s u := (s.heard_linkSide l levels).trans
    ((State.bump_linkSide _ l .sent (by decide) (by decide)).trans (State.rescore_linkSide _ l _))
  have hitem : (u.link l).itemRef = some .poll := by
    rw [LinkCtl.itemRef, State.heardScored_item]
    exact (State.after_itemRef hb).trans href
  obtain ⟨v, hv, hands⟩ := State.endMessage_poll ((State.heardScored_mode _ _ hb).trans hmode)
    ((State.heardScored_pendingMode _ _ hb).trans hpending) hitem .sent
  exact ⟨v, hv, hands.canTake, hands.senders, hands.poll, hands.loader, hands.now.trans hside.stamp⟩

theorem State.markEnds_poll :
    ∃ v, (s.heard l levels).markEnds l = v.askOutcome l .error ∧ Hands s v l := by
  have hlink := s.heard_link l levels
  obtain ⟨v, hv, hands⟩ := State.endMessage_poll (s := s.heard l levels)
    (by rw [hlink]; exact (State.after_mode hb).trans hmode)
    (by rw [hlink]; exact (State.after_pendingMode hb).trans hpending)
    (by rw [hlink]; exact (State.after_itemRef hb).trans href) .error
  exact ⟨v, hv, hands.canTake, hands.senders, hands.poll, hands.loader, hands.now⟩

theorem State.arbitrationLost_poll :
    ∃ v, (s.heard l levels).arbitrationLost l = v.askOutcome l .lost ∧ Hands s v l := by
  let u := (s.heard l levels).modLink l LinkCtl.yields
  let v := u.modLink l fun k => { k with item := none }
  have hu : u.link l = (s.after l levels).yields := by rw [State.link_modLink_self, State.heard_link]
  have hrunning : (s.after l levels).mode = .run := (State.after_mode hb).trans hmode
  have hend : u.endItem l .lost = v.askOutcome l .lost :=
    State.endItem_poll (by rw [hu]; exact (State.after_itemRef hb).trans href) .lost
  have hlink : (u.endItem l .lost).link l = { u.link l with item := none } :=
    State.endItem_link (by rw [hu]; exact LinkCtl.canTake_of_run hrunning nofun) _
  have hnone : ((u.endItem l .lost).link l).pendingMode = none := by
    rw [hlink, hu]
    exact (State.after_pendingMode hb).trans hpending
  refine ⟨v, (State.completePending_none hnone).trans hend, ?_, rfl, rfl, rfl, rfl⟩
  rw [State.link_modLink_self, hu]
  exact LinkCtl.canTake_of_run hrunning nofun

end

/-! ### What is left of the ASK, in the terms of the state before the event -/

section
variable {s v t : State} {l : LinkId} {a : PollAsk} (h : Hands s v l)
include h

theorem Hands.sender : v.sender l = s.sender l := congrArg (look · l) h.senders

theorem Hands.pollQueue : v.pollQueue l = s.pollQueue l := congrArg (fun u : PollUnit => look u.queues l) h.poll

theorem Hands.pollEntry (p : PollId) : v.pollEntry p = s.pollEntry p :=
  congrArg (fun u : PollUnit => look u.entries p) h.poll

theorem Hands.linkSettings : v.linkSettings l = s.linkSettings l :=
  congrArg (fun k : PlanLoader => look k.plan.links l) h.loader

theorem Hands.pollSettings (p : PollId) : v.pollSettings p = s.pollSettings p :=
  congrArg (fun k : PlanLoader => look k.plan.poll p) h.loader

theorem Hands.nextPoll (hnext : v.nextPoll t l) : s.nextPoll t l := by
  have hask (p : PollId) : v.withAsk l p = s.withAsk l p := by
    simp only [State.withAsk, h.sender, h.linkSettings, h.pollSettings]
  simpa only [State.nextPoll, hask, h.sender, h.pollQueue] using hnext

variable (hask : (s.sender l).pollAsk = some a)
include hask

theorem Hands.pollAsk : (v.sender l).pollAsk = some a := (congrArg SendCtl.pollAsk h.sender).trans hask

/-- The ASK's entry after an outcome (R111). -/
theorem Hands.entry (o : Outcome) : (v.askOutcome l o).pollEntry a.entry =
    a.entryAfter (s.linkSettings l).retryLimit o (later s.now (s.replyTimeout a.entry)) (s.pollEntry a.entry) := by
  have htimeout : v.replyTimeout a.entry = s.replyTimeout a.entry := by
    rw [State.replyTimeout, h.pollSettings]
    rfl
  rw [State.askOutcome_entry (h.pollAsk hask), h.linkSettings, h.now, htimeout, h.pollEntry]

theorem Hands.otherEntry (o : Outcome) {p : PollId} (hp : p ≠ a.entry) :
    (v.askOutcome l o).pollEntry p = s.pollEntry p :=
  (State.askOutcome_otherEntry (h.pollAsk hask) o hp).trans (h.pollEntry p)

theorem Hands.ends {o : Outcome} (hr : a.rejoins (s.linkSettings l).retryLimit o = false) :
    s.nextPoll (v.askOutcome l o) l :=
  h.nextPoll (State.askOutcome_ends (h.pollAsk hask) o h.canTake (by rw [h.linkSettings]; exact hr))

/-- The outcome of an abandoned ASK changes no entry (R111). -/
theorem Hands.abandoned (ha : a.abandoned = true) (o : Outcome) :
    (v.askOutcome l o).poll.entries = s.poll.entries ∧ s.nextPoll (v.askOutcome l o) l := by
  have hr : a.rejoins (s.linkSettings l).retryLimit o = false := by simp [PollAsk.rejoins, ha]
  have hentry := (h.entry hask o).trans (a.entryAfter_abandoned _ _ _ ha o)
  exact ⟨(State.askOutcome_entries (h.pollAsk hask) o (hentry.trans (h.pollEntry _).symm)).trans
    (congrArg PollUnit.entries h.poll), h.ends hask hr⟩

/-- An ASK that may be sent again rejoins the send queue (R77, R85). -/
theorem Hands.rejoins {o : Outcome} (hr : a.rejoins (s.linkSettings l).retryLimit o = true) :
    (v.askOutcome l o).poll = s.poll ∧ (v.askOutcome l o).sender l =
      { s.sender l with
        pollAsk := some { a with attempts := o.attempts a.attempts, onWire := false }
        queue := insertItem (s.sender l).acceptCount ⟨.poll, a.priority, a.acceptance⟩ (s.sender l).queue } := by
  obtain ⟨hpoll, hsender⟩ :=
    State.askOutcome_rejoins (h.pollAsk hask) o h.canTake (by rw [h.linkSettings]; exact hr)
  rw [h.sender] at hsender
  exact ⟨hpoll.trans h.poll, hsender⟩

/-- An ASK that is not sent and may not be sent again gives its entry up (R85, R111). -/
theorem Hands.givenUp {o : Outcome} (ha : a.abandoned = false) (ho : o ≠ .sent)
    (hr : a.rejoins (s.linkSettings l).retryLimit o = false) :
    (v.askOutcome l o).pollEntry a.entry = { s.pollEntry a.entry with state := .unsent }
      ∧ s.nextPoll (v.askOutcome l o) l :=
  ⟨(h.entry hask o).trans (a.entryAfter_givenUp _ _ _ ha ho hr), h.ends hask hr⟩

end

/-- Settles O34: each event hands the poll sender its outcome under a link that takes nothing at that event. -/
theorem pollAskOutcomes : Obligations.PollAskOutcomes := by
  intro l levels s a hrun hmode hpending href hask limit timeout takesNext rejoins givesUp
  have hrejoins (o : Outcome) := a.rejoins_iff (s.linkSettings l).retryLimit o
  refine ⟨fun hb => ?_, fun hb => ?_, fun hb => ?_⟩
  · have hside := (s.heard_linkSide l levels).trans (State.messageSent_linkSide _ l)
    have hraised : statusOnlyRaised s ((s.heard l levels).messageSent l) :=
      (State.heardScored_raised _ _).trans (State.endMessage_raised _ l .sent)
    obtain ⟨v, hv, hands⟩ := State.messageSent_poll hb hmode hpending href
    refine ⟨_, exec_messageSent hrun hb, hside.onlyLink hraised, ?_⟩
    rw [hv]
    have hentry := hands.entry hask .sent
    refine ⟨hands.ends hask ?_, fun p hp => hands.otherEntry hask _ hp, fun ha => ?_, fun ha => ?_⟩
    · simp [PollAsk.rejoins]
    · exact hentry.trans (a.entryAfter_abandoned _ _ _ ha _)
    · exact hentry.trans (a.entryAfter_sent _ _ _ ha)
  · have hside := (s.heard_linkSide l levels).trans (State.arbitrationLost_linkSide _ l)
    have hraised : statusOnlyRaised s ((s.heard l levels).arbitrationLost l) :=
      (State.completePending_raised _ l).after ((State.endItem_raised _ l _).after (.of_same rfl))
    obtain ⟨v, hv, hands⟩ := State.arbitrationLost_poll hb hmode hpending href
    refine ⟨_, exec_arbitrationLost hrun hb, hside.onlyLink hraised, ?_⟩
    rw [hv]
    refine ⟨fun ha => hands.abandoned hask ha _, fun ha hmark => ?_, fun ha hmark => ?_⟩
    · exact hands.rejoins hask ((hrejoins .lost).mpr ⟨ha, hmark, .inl rfl⟩)
    · exact hands.givenUp hask ha nofun (by simp [PollAsk.rejoins, hmark])
  · have hside := (s.heard_linkSide l levels).trans (State.markEnds_linkSide _ l)
    have hraised : statusOnlyRaised s ((s.heard l levels).markEnds l) :=
      (State.endMessage_raised _ l .error).after (.of_same rfl)
    obtain ⟨v, hv, hands⟩ := State.markEnds_poll hb hmode hpending href
    refine ⟨_, exec_errorMarkEnd hrun hb, hside.onlyLink hraised, ?_⟩
    rw [hv]
    refine ⟨fun ha => hands.abandoned hask ha _, fun ha hmark hwithin => ?_, fun ha hbeyond => ?_⟩
    · exact hands.rejoins hask
        ((hrejoins .error).mpr ⟨ha, hmark, .inr ⟨rfl, (retryAllows_iff _ _).mpr hwithin⟩⟩)
    · refine hands.givenUp hask ha nofun (Bool.eq_false_iff.mpr fun hr => ?_)
      obtain ⟨-, hmark, hlost | ⟨-, hallows⟩⟩ := (hrejoins .error).mp hr
      · cases hlost
      · have hwithin := (retryAllows_iff _ _).mp hallows
        rcases hbeyond with hmarked | hbeyond
        · exact Bool.false_ne_true (hmark.symm.trans hmarked)
        · omega

end Sys2Proof.Machine
end

section
/-! One ring (R94 to R101): its entries in ring order, what a reservation, a marker write, an abandonment and a release keep,
and the run of released entries that a release frees (O36). -/

namespace Sys2Proof.Machine

/-! ### Rising lists of indexes (R101) -/

theorem mem_insertIndex {i j : Nat} {l : List Nat} : j ∈ insertIndex i l ↔ j = i ∨ j ∈ l := by
  induction l with
  | nil => simp [insertIndex]
  | cons x xs ih =>
    unfold insertIndex
    split
    · exact List.mem_cons
    · split
      next heq => subst heq; simp
      next => simp only [List.mem_cons, ih]; tauto

theorem insertIndex_rising {i : Nat} {l : List Nat} (h : l.Pairwise (· < ·)) : (insertIndex i l).Pairwise (· < ·) := by
  induction l with
  | nil => exact List.pairwise_singleton _ _
  | cons x xs ih =>
    obtain ⟨hx, hxs⟩ := List.pairwise_cons.mp h
    unfold insertIndex
    split
    next hlt =>
      refine List.pairwise_cons.mpr ⟨fun y hy => ?_, h⟩
      rcases List.mem_cons.mp hy with rfl | hy
      · exact hlt
      · exact Nat.lt_trans hlt (hx y hy)
    next hge =>
      split
      · exact h
      next hne =>
        refine List.pairwise_cons.mpr ⟨fun y hy => ?_, ih hxs⟩
        rcases mem_insertIndex.mp hy with rfl | hy
        · omega
        · exact hx y hy

/-! ### Conditions of entries (Table 5-3) -/

/-- An index past the ring is FREE. -/
theorem Ring.lt_of_used {g : Ring} {i : Nat} (h : g.cond i ≠ .free) : i < g.conds.length := by
  by_contra hge
  exact h (List.getD_eq_default _ _ (Nat.le_of_not_lt hge))

/-- One condition changed. -/
theorem Ring.cond_of_set {g g' : Ring} {i : Nat} {c : EntryCond} (h : g'.conds = g.conds.set i c)
    (hi : i < g.conds.length) (j : Nat) : g'.cond j = if i = j then c else g.cond j := by
  simp only [Ring.cond, h, List.getD_eq_getElem?_getD, List.getElem?_set]
  split <;> simp_all

/-- What one changed condition makes of a count. -/
theorem Ring.count_set {g : Ring} {i : Nat} (hi : i < g.conds.length) (c b : EntryCond) :
    (g.conds.set i c).count b + (if g.cond i = b then 1 else 0) = g.conds.count b + if c = b then 1 else 0 := by
  have hcond : g.cond i = g.conds[i] := List.getD_eq_getElem _ _ hi
  have hset := List.count_set (a := c) (b := b) hi
  simp only [beq_iff_eq] at hset
  rw [hset, hcond]
  split
  next hb =>
    have hpos : 0 < g.conds.count b := List.count_pos_iff.mpr (hb ▸ List.getElem_mem hi)
    omega
  next => omega

theorem Ring.cond_freeOldest {g : Ring} (hp : g.cond g.oldest = .pending) (j : Nat) :
    g.freeOldest.cond j = if g.oldest = j then .free else g.cond j :=
  Ring.cond_of_set rfl (Ring.lt_of_used (by rw [hp]; decide)) j

theorem Ring.freeOldest_reserved {g : Ring} (hp : g.cond g.oldest = .pending) {j : Nat} (hj : g.cond j = .reserved) :
    g.freeOldest.cond j = .reserved := by
  rw [Ring.cond_freeOldest hp, if_neg, hj]
  rintro rfl
  cases hp.symm.trans hj

theorem Ring.cond_fill {g : Ring} {i : Nat} (hi : g.cond i ≠ .free) (j : Nat) :
    (g.fill i).cond j = if i = j then .pending else g.cond j := Ring.cond_of_set rfl (Ring.lt_of_used hi) j

theorem Ring.mem_released_freeOldest {g : Ring} {j : Nat} :
    j ∈ g.freeOldest.released ↔ j ∈ g.released ∧ j ≠ g.oldest := by
  simp [Ring.freeOldest]

theorem count_pending_add_reserved_le (cs : List EntryCond) : cs.count .pending + cs.count .reserved ≤ cs.length := by
  induction cs with
  | nil => rfl
  | cons c cs ih => cases c <;> simp <;> omega

theorem Ring.freeRun_of_not_released {g : Ring} (h : g.oldest ∉ g.released) (n : Nat) : g.freeRun n = g := by
  cases n with
  | zero => rfl
  | succ n => rw [Ring.freeRun, if_neg (by simpa using h)]

/-! ### Ring order (R94) -/

theorem Ring.place_inj {g : Ring} {a b : Nat} (ha : a < g.length) (hb : b < g.length) (h : g.place a = g.place b) :
    a = b := by
  have hmod : a ≡ b [MOD g.length] := Nat.ModEq.add_left_cancel' g.oldest h
  exact hmod.eq_of_lt_of_lt ha hb

theorem Ring.after_eq_mod {g : Ring} {i : Nat} (hi : i < g.length) : g.after i = (i + 1) % g.length := by
  unfold Ring.after
  split
  next h => exact (Nat.mod_eq_of_lt h).symm
  next h =>
    obtain h : i + 1 = g.length := by omega
    rw [h, Nat.mod_self]

/-- A ring whose oldest pending index has moved on by one. -/
theorem Ring.place_of_oldest_after {g g' : Ring} (hlength : g'.length = g.length) (hold : g.oldest < g.length)
    (hafter : g'.oldest = g.after g.oldest) (k : Nat) : g'.place k = g.place (k + 1) := by
  rw [Ring.place, Ring.place, hlength, hafter, Ring.after_eq_mod hold, Nat.mod_add_mod]
  congr 1
  omega

/-- The entries of a ring are in order: all that `Ring.sound` asks but that the oldest pending index is not released, which
is open while a release frees its run (R101). -/
structure Ring.Ordered (g : Ring) : Prop where
  size : g.conds.length = g.length
  pending : g.pending = g.conds.count .pending
  reserved : g.reserved = g.conds.count .reserved
  oldest : g.oldest = 0 ∨ g.oldest < g.length
  head : g.head = g.place (g.pending + g.reserved)
  free : ∀ k < g.length, g.cond (g.place k) = .free ↔ g.pending + g.reserved ≤ k
  released : ∀ i ∈ g.released, g.cond i = .pending
  rising : g.released.Pairwise (· < ·)

theorem Ring.sound_iff (g : Ring) : g.sound = true ↔ g.Ordered ∧ g.oldest ∉ g.released := by
  simp only [Ring.sound, Bool.and_eq_true, Bool.or_eq_true, beq_iff_eq, decide_eq_true_eq, List.all_eq_true,
    List.mem_range, bne_iff_ne, ne_eq]
  constructor
  · rintro ⟨⟨⟨⟨⟨⟨⟨hsize, hpending⟩, hreserved⟩, holdest⟩, hhead⟩, hfree⟩, hreleased⟩, hrising⟩
    refine ⟨⟨hsize, hpending, hreserved, holdest, hhead, fun k hk => ?_, fun i hi => (hreleased i hi).2, hrising⟩,
      fun hmem => (hreleased _ hmem).1 rfl⟩
    have := hfree k hk
    rw [Bool.eq_iff_iff] at this
    simpa using this
  · rintro ⟨h, hnot⟩
    refine ⟨⟨⟨⟨⟨⟨⟨h.size, h.pending⟩, h.reserved⟩, h.oldest⟩, h.head⟩, fun k hk => ?_⟩,
      fun i hi => ⟨?_, h.released i hi⟩⟩, h.rising⟩
    · have := h.free k hk
      rw [Bool.eq_iff_iff]
      simpa using this
    · rintro rfl
      exact hnot hi

namespace Ring.Ordered

variable {g : Ring}

theorem used_le (h : g.Ordered) : g.pending + g.reserved ≤ g.length := by
  rw [h.pending, h.reserved, ← h.size]
  exact count_pending_add_reserved_le _

theorem place_zero (h : g.Ordered) : g.place 0 = g.oldest := by
  rcases h.oldest with hzero | hlt
  · rw [Ring.place, hzero, Nat.zero_mod]
  · exact Nat.mod_eq_of_lt hlt

theorem lt_of_used (h : g.Ordered) {i : Nat} (hi : g.cond i ≠ .free) : i < g.length := h.size ▸ Ring.lt_of_used hi

theorem released_length_le (h : g.Ordered) : g.released.length ≤ g.length := by
  have hnodup : g.released.Nodup := h.rising.imp Nat.ne_of_lt
  have hsub : g.released ⊆ List.range g.length := fun i hi =>
    List.mem_range.mpr (h.lt_of_used (by rw [h.released i hi]; decide))
  simpa using (List.subperm_of_subset hnodup hsub).length_le

/-- An entry condition other than FREE put for another: the order of the used entries does not change. -/
theorem free_of_set (h : g.Ordered) {g' : Ring} {i : Nat} {c : EntryCond} (hlength : g'.length = g.length)
    (holdest : g'.oldest = g.oldest) (hused : g'.pending + g'.reserved = g.pending + g.reserved)
    (hconds : g'.conds = g.conds.set i c) (hi : g.cond i ≠ .free) (hc : c ≠ .free) :
    ∀ k < g'.length, g'.cond (g'.place k) = .free ↔ g'.pending + g'.reserved ≤ k := by
  intro k hk
  have hplace : g'.place k = g.place k := by rw [Ring.place, hlength, holdest, Ring.place]
  rw [hplace, hused, ← h.free k (hlength ▸ hk), Ring.cond_of_set hconds (Ring.lt_of_used hi)]
  split
  next heq => subst heq; simp [hc, hi]
  next => rfl

/-- A marker write completed for a RESERVED entry (R98). -/
theorem fill (h : g.Ordered) {i : Nat} (hi : g.cond i = .reserved) : (g.fill i).Ordered := by
  have hused : g.cond i ≠ .free := by rw [hi]; decide
  have hlt := Ring.lt_of_used hused
  have hp := Ring.count_set hlt .pending .pending
  have hr := Ring.count_set hlt .pending .reserved
  simp only [hi, reduceCtorEq, if_false, if_true, Nat.add_zero] at hp hr
  have hpending := h.pending
  have hreserved := h.reserved
  have hsum : (g.fill i).pending + (g.fill i).reserved = g.pending + g.reserved := by
    simp only [Ring.fill]
    omega
  refine ⟨(List.length_set).trans h.size, ?_, ?_, h.oldest, ?_, ?_, fun j hj => ?_, h.rising⟩
  · simp only [Ring.fill]
    omega
  · simp only [Ring.fill]
    omega
  · rw [hsum]
    exact h.head
  · exact h.free_of_set rfl rfl hsum rfl hused (by decide)
  · rw [Ring.cond_of_set (g := g) rfl hlt]
    split
    · rfl
    · exact h.released j hj

/-- The head of a ring that is not full is a FREE entry (R95). -/
theorem head_free (h : g.Ordered) (hroom : g.pending + g.reserved < g.length) :
    g.head < g.length ∧ g.cond g.head = .free := by
  rw [h.head]
  exact ⟨Nat.mod_lt _ (Nat.zero_lt_of_lt hroom), (h.free _ hroom).mpr le_rfl⟩

theorem cond_reserve (h : g.Ordered) (hroom : g.pending + g.reserved < g.length) (j : Nat) :
    g.reserve.cond j = if g.head = j then .reserved else g.cond j :=
  Ring.cond_of_set rfl (h.size ▸ (h.head_free hroom).1) j

/-- The entry at the head of a ring that is not full is reserved (R95). -/
theorem reserve (h : g.Ordered) (hroom : g.pending + g.reserved < g.length) : g.reserve.Ordered := by
  obtain ⟨hheadlt, hfree⟩ := h.head_free hroom
  have hlt : g.head < g.conds.length := h.size ▸ hheadlt
  have hp := Ring.count_set hlt .reserved .pending
  have hr := Ring.count_set hlt .reserved .reserved
  simp only [hfree, reduceCtorEq, if_false, if_true, Nat.add_zero] at hp hr
  have hcond := h.cond_reserve hroom
  refine ⟨(List.length_set).trans h.size, h.pending.trans hp.symm, ?_, h.oldest, ?_, fun k hk => ?_, fun j hj => ?_,
    h.rising⟩
  · exact (congrArg (· + 1) h.reserved).trans hr.symm
  · show g.after g.head = (g.oldest + (g.pending + (g.reserved + 1))) % g.length
    rw [Ring.after_eq_mod hheadlt, h.head, Ring.place, Nat.mod_add_mod]
    rfl
  · show g.reserve.cond (g.place k) = .free ↔ g.pending + (g.reserved + 1) ≤ k
    rw [hcond]
    split
    next heq =>
      have : g.pending + g.reserved = k := Ring.place_inj hroom hk (h.head ▸ heq)
      simp only [reduceCtorEq, false_iff]
      omega
    next hne =>
      rw [h.free k hk]
      have : k ≠ g.pending + g.reserved := by
        rintro rfl
        exact hne h.head
      omega
  · rw [hcond, if_neg, h.released j hj]
    rintro rfl
    rw [h.released _ hj] at hfree
    cases hfree

theorem place_freeOldest (h : g.Ordered) (hp : g.cond g.oldest = .pending) (k : Nat) :
    g.freeOldest.place k = g.place (k + 1) :=
  Ring.place_of_oldest_after (g := g) (g' := g.freeOldest) rfl (h.lt_of_used (by rw [hp]; decide)) rfl k

/-- Ring order comes back to the oldest pending index after the whole length. -/
theorem oldest_eq_place_succ_iff (h : g.Ordered) (hold : g.oldest < g.length) {k : Nat} (hk : k < g.length) :
    g.oldest = g.place (k + 1) ↔ k + 1 = g.length := by
  constructor
  · intro heq
    by_contra hne
    have := Ring.place_inj (a := 0) (b := k + 1) (by omega) (by omega) (h.place_zero.trans heq)
    omega
  · intro hlast
    rw [hlast, Ring.place, Nat.add_mod_right, Nat.mod_eq_of_lt hold]

theorem freeOldest_pending (h : g.Ordered) (hp : g.cond g.oldest = .pending) :
    g.freeOldest.pending + 1 = g.pending := by
  have hpos : 0 < g.conds.count .pending := by
    have hcount := Ring.count_set (Ring.lt_of_used (by rw [hp]; decide)) .free .pending
    simp only [hp, if_true, reduceCtorEq, if_false] at hcount
    omega
  exact Nat.sub_add_cancel (h.pending ▸ hpos)

/-- With the oldest entry freed the used ones are one fewer, from the next index on. -/
theorem freeOldest_free (h : g.Ordered) (hp : g.cond g.oldest = .pending) {k : Nat} (hk : k < g.length) :
    g.freeOldest.cond (g.freeOldest.place k) = .free ↔ g.freeOldest.pending + g.reserved ≤ k := by
  have hold : g.oldest < g.length := h.lt_of_used (by rw [hp]; decide)
  have hpending := h.freeOldest_pending hp
  have hle := h.used_le
  rw [h.place_freeOldest hp, Ring.cond_freeOldest hp]
  split
  next heq =>
    have hlast := (h.oldest_eq_place_succ_iff hold hk).mp heq
    simp only [true_iff]
    omega
  next hne =>
    have hmore : k + 1 ≠ g.length := fun hlast => hne ((h.oldest_eq_place_succ_iff hold hk).mpr hlast)
    rw [h.free (k + 1) (by omega)]
    omega

/-- The PENDING entry at the oldest pending index freed (R101). -/
theorem freeOldest (h : g.Ordered) (hp : g.cond g.oldest = .pending) : g.freeOldest.Ordered := by
  have hused : g.cond g.oldest ≠ .free := by rw [hp]; decide
  have hlt := Ring.lt_of_used hused
  have hold : g.oldest < g.length := h.lt_of_used hused
  have hpending := h.freeOldest_pending hp
  have hcp := Ring.count_set hlt .free .pending
  have hcr := Ring.count_set hlt .free .reserved
  simp only [hp, reduceCtorEq, if_false, if_true, Nat.add_zero] at hcp hcr
  refine ⟨(List.length_set).trans h.size, ?_, h.reserved.trans hcr.symm, .inr ?_, ?_, fun k hk => h.freeOldest_free hp hk,
    fun j hj => ?_, h.rising.filter _⟩
  · have := h.pending
    show g.freeOldest.pending = (g.conds.set g.oldest .free).count .pending
    omega
  · show g.after g.oldest < g.length
    rw [Ring.after_eq_mod hold]
    exact Nat.mod_lt _ (Nat.zero_lt_of_lt hold)
  · rw [h.place_freeOldest hp]
    refine h.head.trans (congrArg g.place ?_)
    have : g.freeOldest.reserved = g.reserved := rfl
    omega
  · obtain ⟨hmem, hne⟩ := Ring.mem_released_freeOldest.mp hj
    rw [Ring.cond_freeOldest hp, if_neg (Ne.symm hne), h.released j hmem]

/-- Freeing the run of released entries ends with the oldest pending index not released, given fuel for all of them. -/
theorem freeRun (h : g.Ordered) {n : Nat} (hn : g.released.length ≤ n) :
    (g.freeRun n).Ordered ∧ (g.freeRun n).oldest ∉ (g.freeRun n).released := by
  induction n generalizing g with
  | zero =>
    have hnil : g.released = [] := List.length_eq_zero_iff.mp (Nat.le_zero.mp hn)
    exact ⟨h, by simp [Ring.freeRun, hnil]⟩
  | succ n ih =>
    unfold Ring.freeRun
    split
    next hmem =>
      have hmem : g.oldest ∈ g.released := by simpa using hmem
      have hfreed := h.freeOldest (h.released _ hmem)
      have hshorter : g.freeOldest.released.length < g.released.length :=
        List.length_filter_lt_length_iff_exists.mpr ⟨g.oldest, hmem, by simp⟩
      exact ih hfreed (by omega)
    next hmem => exact ⟨h, by simpa using hmem⟩

theorem freeRun_reserved (h : g.Ordered) (n : Nat) {j : Nat} (hj : g.cond j = .reserved) :
    (g.freeRun n).cond j = .reserved := by
  induction n generalizing g with
  | zero => exact hj
  | succ n ih =>
    unfold Ring.freeRun
    split
    next hmem =>
      have hp := h.released g.oldest (by simpa using hmem)
      exact ih (h.freeOldest hp) (Ring.freeOldest_reserved hp hj)
    next => exact hj

end Ring.Ordered

/-! ### A release and an abandonment keep a ring sound (R99, R101) -/

/-- A release either frees from the oldest pending index on, or joins the releases kept for their turn (R101). -/
theorem Ring.Ordered.release {g : Ring} (h : g.Ordered) (hold : g.oldest ∉ g.released) (i : Nat) :
    (g.release i).Ordered ∧ (g.release i).oldest ∉ (g.release i).released := by
  unfold Ring.release
  split
  next hp =>
    split
    next heq =>
      subst heq
      have hfreed := h.freeOldest hp
      exact hfreed.freeRun hfreed.released_length_le
    next hne =>
      refine ⟨{ h with
        released := fun j hj => ?_
        rising := insertIndex_rising h.rising }, fun hmem => ?_⟩
      · rcases mem_insertIndex.mp hj with rfl | hj
        · exact hp
        · exact h.released j hj
      · rcases mem_insertIndex.mp hmem with heq | hmem
        · exact hne heq.symm
        · exact hold hmem
  next => exact ⟨h, hold⟩

theorem Ring.release_sound {g : Ring} (h : g.sound = true) (i : Nat) : (g.release i).sound = true := by
  obtain ⟨hordered, hold⟩ := g.sound_iff.mp h
  exact (Ring.sound_iff _).mpr (hordered.release hold i)

/-- A release leaves the RESERVED entries to the messages that hold them. -/
theorem Ring.release_reserved {g : Ring} (h : g.sound = true) (i : Nat) {j : Nat} (hj : g.cond j = .reserved) :
    (g.release i).cond j = .reserved := by
  obtain ⟨hordered, -⟩ := g.sound_iff.mp h
  unfold Ring.release
  split
  next hp =>
    split
    next heq =>
      subst heq
      exact (hordered.freeOldest hp).freeRun_reserved _ (Ring.freeOldest_reserved hp hj)
    next => exact hj
  next => exact hj

theorem Ring.fill_sound {g : Ring} (h : g.sound = true) {i : Nat} (hi : g.cond i = .reserved) :
    (g.fill i).sound = true := by
  obtain ⟨hordered, hold⟩ := g.sound_iff.mp h
  exact (Ring.sound_iff _).mpr ⟨hordered.fill hi, hold⟩

theorem Ring.reserve_sound {g : Ring} (h : g.sound = true) (hroom : g.full = false) : g.reserve.sound = true := by
  obtain ⟨hordered, hold⟩ := g.sound_iff.mp h
  have hroom : g.pending + g.reserved < g.length := by simpa [Ring.full] using hroom
  exact (Ring.sound_iff _).mpr ⟨hordered.reserve hroom, hold⟩

/-- An entry abandoned is void: it becomes PENDING and is released at once (R99). -/
theorem Ring.abandon_eq_release_fill {g : Ring} (h : g.sound = true) {i : Nat} (hi : g.cond i = .reserved) :
    g.abandon i = (g.fill i).release i := by
  obtain ⟨-, hold⟩ := g.sound_iff.mp h
  have hfilled : (g.fill i).cond i = .pending := by
    rw [Ring.cond_fill (by rw [hi]; decide), if_pos rfl]
  rw [Ring.release, if_pos hfilled, Ring.abandon]
  split
  next heq =>
    have hkept : g.released.filter (fun j => j != g.oldest) = g.released := by
      refine List.filter_eq_self.mpr fun j hj => bne_iff_ne.mpr ?_
      rintro rfl
      exact hold hj
    subst heq
    rw [if_pos (show g.oldest = (g.fill g.oldest).oldest from rfl)]
    simp only [Ring.freeOldest, Ring.fill, List.set_set, Nat.add_sub_cancel, hkept]
    rfl
  next hne => rw [if_neg (show ¬ i = (g.fill i).oldest from hne)]; rfl

theorem Ring.abandon_sound {g : Ring} (h : g.sound = true) {i : Nat} (hi : g.cond i = .reserved) :
    (g.abandon i).sound = true := by
  rw [Ring.abandon_eq_release_fill h hi]
  exact Ring.release_sound (Ring.fill_sound h hi) i

theorem Ring.resize_sound (g : Ring) (n : Nat) : (g.resize n).sound = true := by
  refine (Ring.sound_iff _).mpr ⟨⟨List.length_replicate, ?_, ?_, .inl rfl, ?_, fun k _ => ?_, nofun, .nil⟩, nofun⟩
  · exact (List.count_eq_zero.mpr fun hmem => by cases List.eq_of_mem_replicate hmem).symm
  · exact (List.count_eq_zero.mpr fun hmem => by cases List.eq_of_mem_replicate hmem).symm
  · exact (Nat.zero_mod n).symm
  · refine iff_of_true ?_ (Nat.zero_le k)
    simp only [Ring.cond, Ring.resize, List.getD_eq_getElem?_getD, List.getElem?_replicate]
    split <;> rfl

/-! ### The messages that hold reserved entries (R95, R96) -/

/-- A sound ring whose reserved entries are exactly these, each once. -/
structure Ring.HeldBy (g : Ring) (es : List Nat) : Prop where
  sound : g.sound = true
  nodup : es.Nodup
  count : es.length = g.reserved
  reserved : ∀ i ∈ es, g.cond i = .reserved

namespace Ring.HeldBy

variable {g : Ring} {i : Nat} {es : List Nat}

/-- The order in which messages wait has no part in it. -/
theorem perm (h : g.HeldBy es) {fs : List Nat} (hp : es.Perm fs) : g.HeldBy fs :=
  ⟨h.sound, hp.nodup_iff.mp h.nodup, hp.length_eq.symm.trans h.count, fun j hj => h.reserved j (hp.mem_iff.mpr hj)⟩

theorem reserve (h : g.HeldBy es) (hroom : g.full = false) : g.reserve.HeldBy (g.head :: es) := by
  have hlt : g.pending + g.reserved < g.length := by simpa [Ring.full] using hroom
  obtain ⟨hordered, -⟩ := g.sound_iff.mp h.sound
  obtain ⟨-, hfree⟩ := hordered.head_free hlt
  have hnot : g.head ∉ es := fun hmem => by cases hfree.symm.trans (h.reserved _ hmem)
  have hsound := Ring.reserve_sound h.sound hroom
  refine ⟨hsound, List.nodup_cons.mpr ⟨hnot, h.nodup⟩, congrArg (· + 1) h.count, fun j hj => ?_⟩
  rw [hordered.cond_reserve hlt]
  split
  · rfl
  next hne => exact h.reserved j ((List.mem_cons.mp hj).resolve_left (Ne.symm hne))

theorem fill (h : g.HeldBy (i :: es)) : (g.fill i).HeldBy es := by
  have hi := h.reserved i List.mem_cons_self
  obtain ⟨hnot, hnodup⟩ := List.nodup_cons.mp h.nodup
  have hcount : es.length = g.reserved - 1 := by
    rw [← h.count]
    rfl
  refine ⟨Ring.fill_sound h.sound hi, hnodup, hcount, fun j hj => ?_⟩
  rw [Ring.cond_fill (by rw [hi]; decide), if_neg, h.reserved j (List.mem_cons_of_mem i hj)]
  rintro rfl
  exact hnot hj

theorem release (h : g.HeldBy es) (i : Nat) : (g.release i).HeldBy es :=
  ⟨Ring.release_sound h.sound i, h.nodup, h.count.trans (g.release_keeps i).2.2.1.symm,
    fun j hj => Ring.release_reserved h.sound i (h.reserved j hj)⟩

/-- An abandonment is a marker write and a release (R99). -/
theorem abandon (h : g.HeldBy (i :: es)) : (g.abandon i).HeldBy es := by
  rw [Ring.abandon_eq_release_fill h.sound (h.reserved i List.mem_cons_self)]
  exact h.fill.release i

/-- A ring without a used entry reset (R41): no message holds one of its entries. -/
theorem resize (h : g.HeldBy es) (hidle : g.pending + g.reserved = 0) (n : Nat) : (g.resize n).HeldBy es := by
  obtain rfl : es = [] := List.length_eq_zero_iff.mp (by rw [h.count]; omega)
  exact ⟨g.resize_sound n, .nil, rfl, nofun⟩

/-- The OVERFLOWS count has no part in it. -/
theorem setOverflows (h : g.HeldBy es) (v : Counter) : ({ g with overflows := v } : Ring).HeldBy es :=
  ⟨h.sound, h.nodup, h.count, h.reserved⟩

end Ring.HeldBy

/-! ### The run of released entries (R101) -/

/-- From `g` to `g'` the `n` entries from the oldest pending index on have been freed. -/
structure Ring.Frees (g g' : Ring) (n : Nat) : Prop where
  oldest : g'.oldest = g.place n
  pending : g'.pending + n = g.pending
  freed : ∀ j, (∃ k < n, j = g.place k) → g'.cond j = .free
  kept : ∀ j, (¬ ∃ k < n, j = g.place k) → g'.cond j = g.cond j
  released : ∀ j, j ∈ g'.released ↔ j ∈ g.released ∧ ¬ ∃ k < n, j = g.place k

theorem Ring.Ordered.frees_none {g : Ring} (h : g.Ordered) : g.Frees g 0 :=
  ⟨h.place_zero.symm, rfl, fun _ ⟨_, hk, _⟩ => absurd hk (Nat.not_lt_zero _), fun _ _ => rfl,
    fun _ => ⟨fun hj => ⟨hj, fun ⟨_, hk, _⟩ => absurd hk (Nat.not_lt_zero _)⟩, And.left⟩⟩

/-- The oldest entry freed, and then a run of `n`. -/
theorem Ring.Frees.after_freeOldest {g g' : Ring} {n : Nat} (h : g.Ordered) (hp : g.cond g.oldest = .pending)
    (hrun : g.freeOldest.Frees g' n) : g.Frees g' (n + 1) := by
  have hplace := h.place_freeOldest hp
  have hcond := Ring.cond_freeOldest hp
  have hsplit (j : Nat) : (∃ k < n + 1, j = g.place k) ↔ j = g.oldest ∨ ∃ k < n, j = g.freeOldest.place k := by
    simp only [Nat.exists_lt_succ_left, h.place_zero, hplace]
  have hpending := h.freeOldest_pending hp
  refine ⟨hrun.oldest.trans (hplace n), ?_, fun j hj => ?_, fun j hj => ?_, fun j => ?_⟩
  · have := hrun.pending
    omega
  · rcases (hsplit j).mp hj with rfl | hj
    · by_cases hlater : ∃ k < n, g.oldest = g.freeOldest.place k
      · exact hrun.freed _ hlater
      · rw [hrun.kept _ hlater, hcond, if_pos rfl]
    · exact hrun.freed j hj
  · rw [hsplit, not_or] at hj
    obtain ⟨hne, hlater⟩ := hj
    rw [hrun.kept j hlater, hcond, if_neg (Ne.symm hne)]
  · rw [hrun.released, Ring.mem_released_freeOldest, hsplit, not_or, and_assoc]

/-- The run of released entries from the oldest pending index on is freed, up to the first that is not released. -/
theorem Ring.Ordered.freeRun_frees {g : Ring} (h : g.Ordered) {n fuel : Nat} (hfuel : n ≤ fuel) (hn : n < g.length)
    (hrun : ∀ k < n, g.place k ∈ g.released) (hstop : g.place n ∉ g.released) : g.Frees (g.freeRun fuel) n := by
  induction n generalizing g fuel with
  | zero =>
    rw [Ring.freeRun_of_not_released (h.place_zero ▸ hstop)]
    exact h.frees_none
  | succ n ih =>
    obtain ⟨m, rfl⟩ : ∃ m, fuel = m + 1 := ⟨fuel - 1, by omega⟩
    have hfirst : g.oldest ∈ g.released := by
      rw [← h.place_zero]
      exact hrun 0 (Nat.succ_pos n)
    have hp := h.released _ hfirst
    have hplace := h.place_freeOldest hp
    rw [Ring.freeRun, if_pos (by simpa using hfirst)]
    refine .after_freeOldest h hp (ih (h.freeOldest hp) (by omega) (Nat.lt_of_succ_lt hn) (fun k hk => ?_) ?_)
    · rw [hplace]
      refine Ring.mem_released_freeOldest.mpr ⟨hrun (k + 1) (by omega), fun heq => ?_⟩
      have := Ring.place_inj (a := k + 1) (b := 0) (by omega) (by omega) (heq.trans h.place_zero.symm)
      omega
    · rw [hplace]
      exact fun hmem => hstop (Ring.mem_released_freeOldest.mp hmem).1

/-- A release of the oldest pending entry frees it and the run of released entries that follows. -/
theorem Ring.release_oldest_frees {g : Ring} (h : g.sound = true) (hp : g.cond g.oldest = .pending) {n : Nat}
    (hn : n < g.length) (hrun : ∀ k < n, g.place (1 + k) ∈ g.released) (hstop : g.place (1 + n) ∉ g.released) :
    g.Frees (g.release g.oldest) (n + 1) := by
  obtain ⟨hordered, hold⟩ := g.sound_iff.mp h
  have hplace : ∀ k, g.freeOldest.place k = g.place (1 + k) := fun k => by
    rw [Nat.add_comm 1 k]
    exact hordered.place_freeOldest hp k
  rw [Ring.release, if_pos hp, if_pos rfl]
  refine .after_freeOldest hordered hp
    ((hordered.freeOldest hp).freeRun_frees (Nat.le_of_lt hn) hn (fun k hk => ?_) fun hmem => ?_)
  · rw [hplace]
    refine Ring.mem_released_freeOldest.mpr ⟨hrun k hk, fun heq => ?_⟩
    exact hold (heq ▸ hrun k hk)
  · rw [hplace] at hmem
    exact hstop (Ring.mem_released_freeOldest.mp hmem).1

end Sys2Proof.Machine
end

section
/-! The rings at every step (O37): the messages on their way hold the reserved entries, and every operation inside an event
keeps that, as does every command. -/

namespace Sys2Proof.Machine

/-! ### The messages on their way into rings (R95, R96) -/

theorem linkId_zero_or_one (l : LinkId) : l = 0 ∨ l = 1 := by revert l; decide

theorem State.router_modRouter (s : State) (l k : LinkId) (f : Router → Router) :
    (s.modRouter l f).router k = if l = k then f (s.router k) else s.router k := look_update _ _ _ _

/-- The message in writing, then those in the handoff queues. -/
def State.carried (s : State) : List Handoff :=
  s.ringWriter.writing.toList.map (·.handoff) ++ (s.router 0).handoff ++ (s.router 1).handoff

/-- The entries of a ring that messages hold. -/
def entriesIn (r : RingId) (hs : List Handoff) : List Nat := (hs.filter fun h => h.ring == r).map (·.entry)

theorem entriesIn_cons (r : RingId) (h : Handoff) (hs : List Handoff) :
    entriesIn r (h :: hs) = if h.ring = r then h.entry :: entriesIn r hs else entriesIn r hs := by
  by_cases hr : h.ring = r <;> simp [entriesIn, hr]

theorem entriesIn_perm (r : RingId) {hs gs : List Handoff} (h : hs.Perm gs) : (entriesIn r hs).Perm (entriesIn r gs) :=
  (h.filter _).map _

/-- The rings are held by the messages on their way, and a handoff queue holds messages of its own link. -/
structure State.RingsHeld (s : State) : Prop where
  held : ∀ r, (s.ring r).HeldBy (entriesIn r s.carried)
  links : ∀ l, ∀ h ∈ (s.router l).handoff, h.link = l

theorem State.ringsSound_iff (s : State) : s.ringsSound = true ↔ s.RingsHeld := by
  simp only [State.ringsSound, Bool.and_eq_true, List.all_eq_true, beq_iff_eq, decide_eq_true_eq, List.mem_finRange,
    true_implies]
  constructor
  · rintro ⟨hrings, hlinks⟩
    refine ⟨fun r => ?_, hlinks⟩
    obtain ⟨⟨⟨hsound, hnodup⟩, hcount⟩, hreserved⟩ := hrings r
    exact ⟨hsound, hnodup, hcount, hreserved⟩
  · intro h
    refine ⟨fun r => ?_, h.links⟩
    obtain ⟨hsound, hnodup, hcount, hreserved⟩ := h.held r
    exact ⟨⟨⟨hsound, hnodup⟩, hcount⟩, hreserved⟩

/-- A message at the end of a handoff queue is one more on its way. -/
theorem State.carried_enqueue (s : State) (l : LinkId) (h : Handoff) :
    (s.modRouter l fun q => { q with handoff := q.handoff ++ [h] }).carried.Perm (h :: s.carried) := by
  rcases linkId_zero_or_one l with rfl | rfl
  · simpa [State.carried, State.router_modRouter] using
      (List.perm_middle (l₁ := s.ringWriter.writing.toList.map (·.handoff) ++ (s.router 0).handoff))
  · simpa [State.carried, State.router_modRouter] using List.perm_append_comm (l₁ := s.carried) (l₂ := [h])

/-- The state in which the Ring Writer has taken a message (R96), before its body write is submitted. -/
def State.taken (s : State) (h : Handoff) : State :=
  { s with
    routers := update s.routers h.link fun r => { r with handoff := r.handoff.tail }
    ringWriter := { s.ringWriter with writing := some ⟨h, false⟩, lastServed := h.link } }

theorem State.router_taken (s : State) (h : Handoff) (k : LinkId) : (s.taken h).router k =
    if h.link = k then { s.router k with handoff := (s.router k).handoff.tail } else s.router k := look_update _ _ _ _

/-- A message taken by the idle Ring Writer stays on its way. -/
theorem State.carried_taken {s : State} {h : Handoff} {hs : List Handoff} (hidle : s.ringWriter.writing = none)
    (hqueue : (s.router h.link).handoff = h :: hs) : (s.taken h).carried.Perm s.carried := by
  have hcarried : (s.taken h).carried = h :: (((s.taken h).router 0).handoff ++ ((s.taken h).router 1).handoff) := rfl
  rw [hcarried, State.router_taken, State.router_taken]
  rcases linkId_zero_or_one h.link with hl | hl
  · rw [hl] at hqueue
    simp [State.carried, hl, hidle, hqueue]
  · rw [hl] at hqueue
    simpa [State.carried, hl, hidle, hqueue] using List.perm_middle.symm

/-! ### What keeps the rings held -/

/-- An operation keeps the rings held. -/
def KeepsRings (s t : State) : Prop := s.RingsHeld → t.RingsHeld

/-- Rings and messages as they were, in any order on their way. -/
theorem State.RingsHeld.of_perm {s t : State} (h : s.RingsHeld) (hrings : t.ringWriter.rings = s.ringWriter.rings)
    (hcarried : t.carried.Perm s.carried) (hlinks : ∀ l, ∀ x ∈ (t.router l).handoff, x.link = l) : t.RingsHeld := by
  refine ⟨fun r => ?_, hlinks⟩
  have hring : t.ring r = s.ring r := congrArg (look · r) hrings
  rw [hring]
  exact (h.held r).perm (entriesIn_perm r hcarried.symm)

namespace KeepsRings

theorem refl (s : State) : KeepsRings s s := id

theorem trans {s t u : State} (h : KeepsRings s t) (k : KeepsRings t u) : KeepsRings s u := k ∘ h

/-- The same, the later part first. -/
theorem after {s t u : State} (k : KeepsRings t u) (h : KeepsRings s t) : KeepsRings s u := h.trans k

theorem of_same {s t : State} (hr : t.routers = s.routers) (hw : t.ringWriter = s.ringWriter) : KeepsRings s t := by
  have hrouter (l : LinkId) : t.router l = s.router l := congrArg (look · l) hr
  have hcarried : t.carried = s.carried := by rw [State.carried, hw, hrouter, hrouter, State.carried]
  intro h
  refine h.of_perm (congrArg RingWriter.rings hw) (hcarried ▸ List.Perm.refl _) fun l => ?_
  rw [hrouter]
  exact h.links l

theorem foldl {α : Type} (f : State → α → State) (h : ∀ s a, KeepsRings s (f s a)) (l : List α) (s : State) :
    KeepsRings s (l.foldl f s) := by
  induction l generalizing s with
  | nil => exact refl s
  | cons a l ih => exact (h s a).trans (ih _)

end KeepsRings

theorem CommSide.keepsRings {s t : State} (h : CommSide s t) : KeepsRings s t := .of_same h.routers h.ringWriter
theorem LinkSide.keepsRings {l : LinkId} {s t : State} (h : LinkSide l s t) : KeepsRings s t := h.toCommSide.keepsRings
theorem DriveSide.keepsRings {s t : State} (h : DriveSide s t) : KeepsRings s t := .of_same h.routers h.ringWriter
theorem RepeaterSide.keepsRings {s t : State} (h : RepeaterSide s t) : KeepsRings s t := by
  obtain ⟨_, _, rfl⟩ := h
  exact .of_same rfl rfl

/-! ### Admission and the Ring Writer (R95 to R99) -/

/-- A counter set again holds the rings as before. -/
theorem TakeCounter.set_keepsRings (k : TakeCounter) (v : Counter) (s : State) : KeepsRings s (k.set v s) := by
  have hrouter (l : LinkId) (f : Router → Router) (hf : ∀ q, (f q).handoff = q.handoff) :
      KeepsRings s (s.modRouter l f) := by
    have hhandoff (k : LinkId) : ((s.modRouter l f).router k).handoff = (s.router k).handoff := by
      rw [State.router_modRouter]
      split
      · exact hf _
      · rfl
    intro h
    refine h.of_perm rfl ?_ fun k => ?_
    · rw [State.carried, hhandoff, hhandoff]
      exact .refl _
    · rw [hhandoff]
      exact h.links k
  cases k with
  | link l k =>
    cases k with
    | unrouted | overruns => exact hrouter l _ fun _ => rfl
    | _ => exact .of_same rfl rfl
  | overflows r =>
    intro h
    refine ⟨fun q => ?_, h.links⟩
    show ((s.modRing r _).ring q).HeldBy (entriesIn q s.carried)
    rw [State.ring_modRing]
    split
    · exact (h.held q).setOverflows v
    · exact h.held q
  | _ => exact .of_same rfl rfl

theorem State.bump_keepsRings (s : State) (k : TakeCounter) : KeepsRings s (s.bump k) := k.set_keepsRings _ s

theorem State.raise_keepsRings (s : State) (c : Cause) : KeepsRings s (s.raise c) := .of_same rfl rfl

theorem State.submitEntry_keepsRings (s : State) (h : Handoff) (p : Purpose) (o : Nat) (b : List WriteBeat) :
    KeepsRings s (s.submitEntry h p o b) := by
  unfold State.submitEntry
  split
  · exact .refl s
  · exact .of_same rfl rfl

/-- The Ring Writer takes a message only when it is idle, from the head of a handoff queue (R96). -/
theorem State.writerTakes_cases {s : State} {h : Handoff} (htakes : s.writerTakes = some h) :
    s.ringWriter.writing = none ∧ ∃ l hs, (s.router l).handoff = h :: hs := by
  unfold State.writerTakes at htakes
  split at htakes
  · cases htakes
  next hidle =>
    obtain ⟨l, -, hhead⟩ := Option.bind_eq_some_iff.mp htakes
    obtain ⟨hs, hqueue⟩ := List.head?_eq_some_iff.mp hhead
    exact ⟨by simpa using hidle, l, hs, hqueue⟩

theorem State.writerTake_of_none {s : State} (h : s.writerTakes = none) : s.writerTake = s := by
  rw [State.writerTake, h]

theorem State.writerTake_of_some {s : State} {h : Handoff} (htakes : s.writerTakes = some h) :
    s.writerTake = (s.taken h).submitEntry h .ringBody 4 (fullBeats 7 h.body) := by
  rw [State.writerTake, htakes]
  rfl

theorem State.writerTake_keepsRings (s : State) : KeepsRings s s.writerTake := by
  cases htakes : s.writerTakes with
  | none =>
    rw [State.writerTake_of_none htakes]
    exact .refl s
  | some h =>
    rw [State.writerTake_of_some htakes]
    refine .after (State.submitEntry_keepsRings _ _ _ _ _) fun hheld => ?_
    obtain ⟨hidle, l, hs, hqueue⟩ := State.writerTakes_cases htakes
    obtain rfl : h.link = l := hheld.links l h (hqueue ▸ List.mem_cons_self)
    refine hheld.of_perm rfl (State.carried_taken hidle hqueue) fun k x hx => hheld.links k x ?_
    rw [State.router_taken] at hx
    split at hx
    · exact List.mem_of_mem_tail hx
    · exact hx

/-- The state in which the head entry of a ring has been reserved for a message that waits for the Ring Writer. -/
def State.ringAdmitted (s : State) (h : Handoff) : State :=
  (s.modRing h.ring Ring.reserve).modRouter h.link fun q => { q with handoff := q.handoff ++ [h] }

theorem State.handoff_ringAdmitted (s : State) (h : Handoff) (k : LinkId) :
    ((s.ringAdmitted h).router k).handoff = if h.link = k then (s.router k).handoff ++ [h] else (s.router k).handoff := by
  rw [State.ringAdmitted, State.router_modRouter]
  split <;> rfl

/-- A message admitted holds the entry at the head (R95). -/
theorem State.ringAdmitted_keepsRings {s : State} {h : Handoff} (hentry : h.entry = (s.ring h.ring).head)
    (hroom : (s.ring h.ring).full = false) : KeepsRings s (s.ringAdmitted h) := by
  refine fun hheld => ⟨fun r => ?_, fun l x hx => ?_⟩
  · refine Ring.HeldBy.perm ?_ (entriesIn_perm r ((s.modRing h.ring Ring.reserve).carried_enqueue h.link h).symm)
    show ((s.modRing h.ring Ring.reserve).ring r).HeldBy (entriesIn r (h :: s.carried))
    rw [entriesIn_cons, State.ring_modRing, hentry]
    split
    next heq =>
      subst heq
      exact (hheld.held h.ring).reserve hroom
    next => exact hheld.held r
  · rw [State.handoff_ringAdmitted] at hx
    split at hx
    next hlink =>
      rcases List.mem_append.mp hx with hx | hx
      · exact hheld.links l x hx
      · rw [List.mem_singleton.mp hx, hlink]
    next => exact hheld.links l x hx

theorem State.intoRing_keepsRings (s : State) (l : LinkId) (r : RingId) (k : Nat) (m : Message) (d : Damage) (t : Stamp) :
    KeepsRings s (s.intoRing l r k m d t) := by
  unfold State.intoRing
  split
  · exact (s.bump_keepsRings _).trans (State.raise_keepsRings _ _)
  · split
    · exact (s.bump_keepsRings _).trans (State.raise_keepsRings _ _)
    next hfull =>
      exact .after (State.writerTake_keepsRings _)
        (State.ringAdmitted_keepsRings (h := ⟨l, r, (s.ring r).head, k, m, d, t⟩) rfl (by simpa using hfull))

/-- The entry in writing leaves the hands of its message, by an operation of its ring that is done with it (R98, R99). -/
theorem State.writerDone_keepsRings {s : State} {w : Writing} {f : Ring → Ring} (hw : s.ringWriter.writing = some w)
    (hf : ∀ g es, g.HeldBy (w.handoff.entry :: es) → (f g).HeldBy es) :
    KeepsRings s (s.modRing w.handoff.ring f).writerDone := by
  refine .after (State.writerTake_keepsRings _) fun hheld => ⟨fun q => ?_, hheld.links⟩
  have hcarried : s.carried = w.handoff :: ((s.router 0).handoff ++ (s.router 1).handoff) := by
    rw [State.carried, hw]
    rfl
  have hq := hheld.held q
  rw [hcarried, entriesIn_cons] at hq
  show ((s.modRing w.handoff.ring f).ring q).HeldBy (entriesIn q ((s.router 0).handoff ++ (s.router 1).handoff))
  rw [State.ring_modRing]
  by_cases heq : w.handoff.ring = q
  · rw [if_pos heq] at hq ⊢
    exact hf _ _ hq
  · rw [if_neg heq] at hq ⊢
    exact hq

theorem State.writerAbandon_keepsRings {s : State} {w : Writing} (hw : s.ringWriter.writing = some w) :
    KeepsRings s (s.writerAbandon w.handoff) :=
  State.writerDone_keepsRings hw fun _ _ h => h.abandon

theorem State.bodyWritten_keepsRings (s : State) (code : DownCode) : KeepsRings s (s.bodyWritten code) := by
  unfold State.bodyWritten
  split
  · exact .refl s
  next w hw =>
    cases code with
    | okay =>
      refine .after (State.submitEntry_keepsRings _ _ _ _ _) fun h => h.of_perm rfl ?_ h.links
      rw [State.carried, State.carried, hw]
      exact .refl _
    | other => exact State.writerAbandon_keepsRings hw

theorem State.markerWritten_keepsRings (s : State) (code : DownCode) : KeepsRings s (s.markerWritten code) := by
  unfold State.markerWritten
  split
  · exact .refl s
  next w hw =>
    cases code with
    | okay =>
      exact (s.raise_keepsRings .received).trans
        (State.writerDone_keepsRings (s := s.raise .received) hw fun _ _ h => h.fill)
    | other => exact State.writerAbandon_keepsRings hw

theorem State.releaseNoticed_keepsRings (s : State) (r : RingId) (i : Nat) : KeepsRings s (s.releaseNoticed r i) := by
  refine fun h => ⟨fun q => ?_, h.links⟩
  show ((s.modRing r _).ring q).HeldBy (entriesIn q s.carried)
  rw [State.ring_modRing]
  split
  · exact (h.held q).release i
  · exact h.held q

/-! ### Routing (R87 to R93) -/

theorem State.storeValue_keepsRings (s : State) (p : PollId) (m : Message) (t : Stamp) :
    KeepsRings s (s.storeValue p m t) :=
  (s.modPoll_linkSide 0 p _).keepsRings.trans (State.reevaluate_driveSide _).keepsRings

theorem State.storeReply_keepsRings (s : State) (l : LinkId) (p : PollId) (m : Message) (t : Stamp) :
    KeepsRings s (s.storeReply l p m t) := by
  unfold State.storeReply
  split
  · exact ((s.dropAsk_linkSide l p).keepsRings.trans (State.storeValue_keepsRings _ p m t)).trans
      (State.pollTake_linkSide _ l).keepsRings
  · exact s.storeValue_keepsRings p m t

theorem State.sift_keepsRings (s : State) (l : LinkId) (m : Message) (t : Stamp) : KeepsRings s (s.sift l m t) := by
  unfold State.sift
  split
  · exact s.intoRing_keepsRings l _ _ m _ t
  · exact .refl s
  · exact s.bump_keepsRings _

theorem State.hear_keepsRings (s : State) (l : LinkId) (m : Message) (t : Stamp) : KeepsRings s (s.hear l m t) := by
  unfold State.hear
  split
  · exact .refl s
  · exact s.storeValue_keepsRings _ m t

theorem State.routeGood_keepsRings (s : State) (l : LinkId) (m : Message) (t : Stamp) :
    KeepsRings s (s.routeGood l m t) := by
  unfold State.routeGood
  cases m.kind with
  | reply =>
    dsimp only
    split
    · exact s.storeReply_keepsRings l _ m t
    · exact s.sift_keepsRings l m t
  | ask =>
    dsimp only
    split
    · exact (s.consumeAsk_commSide l _).keepsRings
    · exact s.sift_keepsRings l m t
  | data =>
    dsimp only
    split
    · exact (s.deckCommand_driveSide _ l m).keepsRings
    · exact (s.hear_keepsRings l m t).trans (State.sift_keepsRings _ l m t)

theorem State.routeDamaged_keepsRings (s : State) (l : LinkId) (m : Message) (t : Stamp) :
    KeepsRings s (s.routeDamaged l m t) := by
  unfold State.routeDamaged
  split
  · split
    · exact s.intoRing_keepsRings l _ _ m _ t
    · exact .refl s
  · exact .refl s
  · exact .refl s

theorem State.messageReceived_keepsRings (s : State) (l : LinkId) : KeepsRings s (s.messageReceived l) :=
  (((s.countReceived_linkSide l _).trans (State.rescore_linkSide _ l _)).trans
    (State.modLink_linkSide _ l _)).keepsRings.trans (State.routeGood_keepsRings _ l _ _)

theorem State.checkError_keepsRings (s : State) (l : LinkId) : KeepsRings s (s.checkError l) :=
  ((s.countError_linkSide l .check false (by decide) (by decide)).keepsRings.trans
    (State.routeDamaged_keepsRings _ l _ _)).trans (State.endAtError_linkSide _ l true).keepsRings

theorem State.mirroredEnds_keepsRings (s : State) (l : LinkId) (m : Message) : KeepsRings s (s.mirroredEnds l m) :=
  (((((s.modLink_linkSide l _).trans (State.endItem_linkSide _ l _)).trans
    (State.bump_linkSide _ l .sent (by decide) (by decide))).trans (State.countReceived_linkSide _ l m)).keepsRings.trans
    (State.routeGood_keepsRings _ l m _)).trans (State.completePending_linkSide _ l).keepsRings

end Sys2Proof.Machine
end

section
/-! The rings at every step (O37), continued: a plan coming into force, the memory path, and every command. -/

namespace Sys2Proof.Machine

/-! ### A plan coming into force (R38, R41) -/

/-- Where several checks find no fault, none of them does. -/
theorem passed_of_firstFault {fs : List (Option PlanFault)} (h : firstFault fs = none) {o : Option PlanFault}
    (ho : o ∈ fs) : o = none := List.findSome?_eq_none_iff.mp h o ho

/-- BUSY is the last check: a plan that passes moves no ring with an entry in use (R38). -/
theorem State.ringBusy_of_checkPlan {s : State} {p : Page} {v : Word} (h : s.checkPlan p v = none) (r : RingId) :
    s.ringBusy (pagePlan p) r = false := by
  have hbusy : s.checkBusy (pagePlan p) = none := passed_of_firstFault h (by simp only [List.mem_cons, true_or, or_true])
  have hrings : firstFailing .busy .rings 4 (s.ringBusy (pagePlan p)) = none :=
    passed_of_firstFault hbusy (by simp only [List.mem_cons, true_or, or_true])
  have hnone := List.find?_eq_none.mp (Option.map_eq_none_iff.mp hrings) r (List.mem_finRange r)
  simpa using hnone

/-- Every ring that a plan moves is empty, and reset; the messages on their way stay (R41). -/
theorem State.forcePlan_keepsRings {s : State} {q : Plan} (h : ∀ r, s.ringBusy q r = false) :
    KeepsRings s (s.forcePlan q) := by
  intro hheld
  have hwriter : (s.forcePlan q).ringWriter = (s.planLinked q).ringWriter := s.forcePlan_ringWriter q
  have hrouters : (s.forcePlan q).routers = s.routers := by
    obtain ⟨r, p, hafter⟩ := s.forcePlan_after q
    rw [hafter]
    exact (State.replanChannels_driveSide _).routers.trans (s.planPolled_commSide q).routers
  have hrouter (l : LinkId) : (s.forcePlan q).router l = s.router l := congrArg (look · l) hrouters
  have hcarried : (s.forcePlan q).carried = s.carried := by
    rw [State.carried, hrouter, hrouter, hwriter]
    rfl
  refine ⟨fun r => ?_, fun l => ?_⟩
  · rw [hcarried, State.forcePlan_ring]
    split
    next hmoves =>
      refine (hheld.held r).resize ?_ _
      have hr := h r
      simp only [State.ringBusy, hmoves, Bool.true_and, decide_eq_false_iff_not] at hr
      omega
    next => exact hheld.held r
  · rw [hrouter]
    exact hheld.links l

theorem State.modLoader_keepsRings (s : State) (f : PlanLoader → PlanLoader) : KeepsRings s (s.modLoader f) :=
  .of_same rfl rfl

theorem State.refusePlan_keepsRings (s : State) (f : PlanFault) : KeepsRings s (s.refusePlan f) := .of_same rfl rfl

theorem State.endLoad_keepsRings (s : State) (l : Load) : KeepsRings s (s.endLoad l) := by
  unfold State.endLoad
  split
  · exact s.refusePlan_keepsRings _
  next hpassed => exact State.forcePlan_keepsRings (State.ringBusy_of_checkPlan hpassed)

theorem State.planReadStored_keepsRings (s : State) (l : Load) (i : Nat) (ws : List Word) :
    KeepsRings s (s.planReadStored l i ws) := by
  unfold State.planReadStored
  dsimp only
  split
  · exact .of_same rfl rfl
  · split
    · exact (s.modLoader_keepsRings _).trans (State.endLoad_keepsRings _ _)
    · exact s.modLoader_keepsRings _

theorem State.planRead_keepsRings (s : State) (serial i : Nat) (code : DownCode) (ws : List Word) :
    KeepsRings s (s.planRead serial i code ws) := by
  unfold State.planRead
  split
  · exact .refl s
  · cases code with
    | okay => exact s.planReadStored_keepsRings _ i ws
    | other => exact s.refusePlan_keepsRings _

/-! ### Notices and the effects of a transfer (R9, R10) -/

theorem State.planNoticed_keepsRings (s : State) (serial : Nat) : KeepsRings s (s.planNoticed serial) := by
  unfold State.planNoticed
  split
  · exact .refl s
  · split
    · exact .of_same rfl rfl
    · exact .refl s

theorem State.deliver_keepsRings (s : State) (n : Notice) : KeepsRings s (s.deliver n) := by
  cases n with
  | plan serial => exact s.planNoticed_keepsRings serial
  | fetch l i f => exact (s.fetchNoticed_commSide l i f).keepsRings
  | release r e => exact s.releaseNoticed_keepsRings r e

/-- Reading counters takes what was counted, and nothing of a ring (R165). -/
theorem State.takeWords_keepsRings (s : State) (ws : List Nat) : KeepsRings s (s.takeWords ws) :=
  (KeepsRings.foldl _ (fun _ k => k.set_keepsRings _ _) _ s).trans (.of_same rfl rfl)

/-- No trigger changes a ring at its taking; a release waits for its notice (R101). -/
theorem State.triggerEffect_keepsRings (s : State) (ts : List Touch) (r : WordRef) (w : Word) :
    KeepsRings s (s.triggerEffect ts r w).1 := by
  cases r with
  | planSequence => exact s.modLoader_keepsRings fun p => p.trigger w
  | mode l =>
    simp only [State.triggerEffect]
    split
    · exact .refl s
    · exact (s.requestMode_linkSide l _).keepsRings
  | abortAll l => exact (s.abortSends_linkSide l).keepsRings
  | request l i => exact (s.slotRequest_linkSide ts l i w).keepsRings
  | _ => exact .refl s

theorem State.beatEffect_keepsRings (j : State) (ts : List Touch) (acc : State × List Notice) (x : Touch) :
    KeepsRings acc.1 (j.beatEffect ts acc x).1 := by
  unfold State.beatEffect
  split
  · split
    · exact (acc.1.blockEffect_driveSide j ts _).keepsRings
    · exact .refl _
  · split
    · exact acc.1.triggerEffect_keepsRings ts _ _
    · exact .refl _

theorem State.beatEffects_keepsRings (j : State) (ts l : List Touch) (acc : State × List Notice) :
    KeepsRings acc.1 (l.foldl (j.beatEffect ts) acc).1 := by
  induction l generalizing acc with
  | nil => exact .refl _
  | cons x l ih => exact (State.beatEffect_keepsRings j ts acc x).trans (ih _)

theorem State.takeEffects_keepsRings (s : State) (t : Transfer) : KeepsRings s (s.takeEffects t).1 := by
  unfold State.takeEffects
  split
  · exact (s.takeWords_keepsRings _).trans (State.latentFetch_commSide _ _).keepsRings
  · exact State.beatEffects_keepsRings s _ _ (s, [])

theorem State.captureWithheld_keepsRings (s : State) (t : Transfer) (ds : List Disposition) :
    KeepsRings s (s.captureWithheld t ds) := by
  unfold State.captureWithheld
  split
  · exact .refl s
  · exact .of_same rfl rfl

/-! ### The memory path (R1, R3, R10, R14) -/

theorem State.modPath_keepsRings (s : State) (f : Path → Path) : KeepsRings s (s.modPath f) := .of_same rfl rfl

theorem State.commit_keepsRings (s : State) : KeepsRings s s.commit := s.modPath_keepsRings _

theorem State.settle_keepsRings (s : State) : KeepsRings s s.settle :=
  (s.modPath_keepsRings _).trans (KeepsRings.foldl _ State.deliver_keepsRings _ _)

theorem State.taking_keepsRings (s : State) (t : Transfer) : KeepsRings s (s.taking t) :=
  (((s.takeEffects_keepsRings t).trans (State.captureWithheld_keepsRings _ t _)).trans
    (State.modPath_keepsRings _ _)).trans (State.settle_keepsRings _)

theorem State.takeNext_keepsRings (s : State) : KeepsRings s s.takeNext := by
  unfold State.takeNext
  split
  · exact .refl s
  · split
    · exact (s.modPath_keepsRings _).trans (State.taking_keepsRings _ _)
    · exact .refl s

theorem State.takeUpTo_keepsRings (n : Nat) (s : State) : KeepsRings s (State.takeUpTo n s) := by
  induction n generalizing s with
  | zero => exact .refl s
  | succ n ih => exact s.takeNext_keepsRings.trans (ih _)

theorem State.presentTransfer_keepsRings (s : State) (t : Transfer) : KeepsRings s (s.presentTransfer t) := by
  unfold State.presentTransfer
  dsimp only
  split
  · exact s.modPath_keepsRings _
  · exact ((s.modPath_keepsRings _).trans (State.takeNext_keepsRings _)).trans (State.commit_keepsRings _)

theorem State.request_keepsRings (s : State) (t : Option Transfer) : KeepsRings s (s.request t) := by
  cases t with
  | none => exact .refl s
  | some t => exact s.presentTransfer_keepsRings t

theorem State.pieceAnswered_keepsRings (s : State) (i k : Nat) (code : DownCode) (data : List Word) :
    KeepsRings s (s.pieceAnswered i k code data) := by
  unfold State.pieceAnswered
  split
  · exact (s.modPath_keepsRings _).trans (State.settle_keepsRings _)
  · exact .refl s

theorem State.responseLeaves_keepsRings (s : State) : KeepsRings s s.responseLeaves := by
  unfold State.responseLeaves
  split
  · exact .refl s
  · exact (s.modPath_keepsRings _).trans (State.takeNext_keepsRings _)

/-! ### Completions of internal transfers (R19, R20) -/

theorem State.complete_keepsRings (s : State) (nth : Nat) (code : DownCode) : KeepsRings s (s.complete nth code) := by
  cases code <;> exact .of_same rfl rfl

theorem State.planReadCompletes_keepsRings (s : State) (nth : Nat) (code : DownCode) (data : List Word) :
    KeepsRings s (s.planReadCompletes nth code data) := by
  unfold State.planReadCompletes
  split
  · exact (s.complete_keepsRings nth code).trans (State.planRead_keepsRings _ _ _ _ _)
  · exact .refl s

theorem State.slotFetchCompletes_keepsRings (s : State) (nth : Nat) (code : DownCode) (data : List Word) :
    KeepsRings s (s.slotFetchCompletes nth code data) := by
  unfold State.slotFetchCompletes
  split
  · exact (s.complete_keepsRings nth code).trans (State.fetchCompleted_linkSide _ _ _ _ _ _).keepsRings
  · exact .refl s

theorem State.bodyWriteCompletes_keepsRings (s : State) (nth : Nat) (code : DownCode) :
    KeepsRings s (s.bodyWriteCompletes nth code) := by
  unfold State.bodyWriteCompletes
  split
  · exact (s.complete_keepsRings nth code).trans (State.bodyWritten_keepsRings _ _)
  · exact .refl s

theorem State.markerWriteCompletes_keepsRings (s : State) (nth : Nat) (code : DownCode) :
    KeepsRings s (s.markerWriteCompletes nth code) := by
  unfold State.markerWriteCompletes
  split
  · exact (s.complete_keepsRings nth code).trans (State.markerWritten_keepsRings _ _)
  · exact .refl s

theorem State.rangeRead_keepsRings (s : State) (g k : Nat) (code : DownCode) (ws : List Word) :
    KeepsRings s (s.rangeRead g k code ws) := by
  unfold State.rangeRead
  split
  · split
    · exact .of_same rfl rfl
    · exact .refl s
  all_goals exact .refl s

theorem State.repeaterReadCompletes_keepsRings (s : State) (nth : Nat) (code : DownCode) (data : List Word) :
    KeepsRings s (s.repeaterReadCompletes nth code data) := by
  unfold State.repeaterReadCompletes
  split
  · exact (s.complete_keepsRings nth code).trans (State.rangeRead_keepsRings _ _ _ _ _)
  · exact .refl s

/-! ### The Repeater (R172 to R176) -/

theorem State.periodExpires_keepsRings (s : State) : KeepsRings s s.periodExpires := by
  unfold State.periodExpires
  dsimp only
  split
  · exact .refl s
  · exact ((s.modRepeater_repeaterSide _).trans (State.beginCycle_repeaterSide _)).keepsRings
  · exact .of_same rfl rfl

theorem State.frameEnds_keepsRings (s : State) : KeepsRings s s.frameEnds := by
  unfold State.frameEnds
  dsimp only
  split
  · exact (RepeaterSide.trans ⟨_, _, rfl⟩ (State.frameDue_repeaterSide _)).keepsRings
  · split
    · exact (RepeaterSide.trans ⟨_, _, rfl⟩ (State.beginCycle_repeaterSide _)).keepsRings
    · exact .of_same rfl rfl

/-! ### Every command -/

/-- The next state of an outcome, if it has one, keeps the rings held. -/
def EndsHeld (s : State) (o : Host.Outcome State Fault Refusal) : Prop :=
  match o with
  | .next t => KeepsRings s t
  | .fault _ | .refused _ => True

theorem EndsHeld.ite {c : Prop} [Decidable c] {s t : State} {r : Refusal} (h : KeepsRings s t) :
    EndsHeld s (if c then .next t else .refused r) := by
  split
  · exact h
  · trivial

/-- An event ends with what its operation makes of the rings. -/
theorem State.event_keepsRings {s : State} {f : State → State} (h : KeepsRings s (f s)) : KeepsRings s (s.event f) := by
  unfold State.event
  split
  · exact .refl s
  · exact h.trans (State.commit_keepsRings _)

/-- An event taken where it is due, and out of place otherwise (log 2). -/
theorem State.dueEvent_keepsRings {c : Prop} [Decidable c] {s : State} {f : State → State} (h : KeepsRings s (f s)) :
    KeepsRings s (if c then s.event f else s) := by
  split
  · exact State.event_keepsRings h
  · exact .refl s

theorem State.undueEvent_keepsRings {c : Prop} [Decidable c] {s : State} {f : State → State} (h : KeepsRings s (f s)) :
    KeepsRings s (if c then s else s.event f) := by
  split
  · exact .refl s
  · exact State.event_keepsRings h

/-- The levels of a line bring about an operation of the link, or nothing (log 9). -/
theorem State.wire_keepsRings (s : State) (l : LinkId) (levels : List Level) (e : WireEvent) {f : State → State}
    (hf : ∀ u, KeepsRings u (f u)) : KeepsRings s (s.wire l levels e f) := by
  unfold State.wire
  split
  · exact .refl s
  · split
    · exact (s.modLink_linkSide l _).keepsRings.trans (hf _)
    · exact .refl s

theorem State.wireEvent_keepsRings (s : State) (l : LinkId) (levels : List Level) (e : WireEvent) {f : State → State}
    (hf : ∀ u, KeepsRings u (f u)) : KeepsRings s (s.event fun t => t.wire l levels e f) :=
  State.event_keepsRings (s.wire_keepsRings l levels e hf)

theorem execMirroredMessageEnd_endsHeld (l : LinkId) (s : State) : EndsHeld s (execMirroredMessageEnd l s) := by
  unfold execMirroredMessageEnd EndsHeld
  dsimp only
  split
  · exact .refl s
  · exact State.event_keepsRings (s.mirroredEnds_keepsRings l _)

theorem State.resetEnds_keepsRings (s : State) (i : InputLevels) : KeepsRings s (s.resetEnds i) :=
  ((KeepsRings.of_same (s := s) (t := s.inputsRead i) rfl rfl).trans
    (State.takeUpTo_keepsRings s.path.port.length _)).trans (State.commit_keepsRings _)

/-- Right after the start reset every ring is empty and no message is on its way (R104). -/
theorem State.startReset_held (s : State) (planSel : BitVec 4) : (s.startReset planSel).RingsHeld :=
  (State.ringsSound_iff _).mp rfl

/-- No command takes an entry from the message that holds it, or breaks the order of a ring. -/
theorem exec_endsHeld (c : Instr) (s : State) : EndsHeld s (exec c s) := by
  cases c with
  | startReset planSel => exact fun _ => s.startReset_held planSel
  | resetEnd i =>
    show KeepsRings s (if s.inReset then s.resetEnds i else s)
    split
    · exact s.resetEnds_keepsRings i
    · exact .refl s
  | stampTick => exact State.event_keepsRings (.of_same rfl rfl)
  | upstreamTransferTaken t => exact EndsHeld.ite (s.presentTransfer_keepsRings t)
  | downstreamGrant => exact State.event_keepsRings (.of_same rfl rfl)
  | pieceAnswered i k code data => exact State.event_keepsRings (s.pieceAnswered_keepsRings i k code data)
  | upstreamResponseLeaves => exact State.event_keepsRings s.responseLeaves_keepsRings
  | planSequenceTrigger id value => exact s.presentTransfer_keepsRings _
  | modeRequestSetup l id | modeRequestRun l id | modeRequestListen l id | modeRequestMirror l id
  | modeRequestQuiet l id | send l i id body | answer l i id body | abort l i id | abortAll l id | release r e id
  | enable c id f | disable c id f | moveOut c id f | moveIn c id f | goto c id f | stop c id f | clearTrip c id f
  | watchOn c id f | watchOff c id f => exact s.request_keepsRings _
  | latentFetch w n id | take w n id => exact EndsHeld.ite (s.request_keepsRings _)
  | planReadComplete nth code data => exact State.event_keepsRings (s.planReadCompletes_keepsRings nth code data)
  | slotFetchComplete nth code data => exact State.event_keepsRings (s.slotFetchCompletes_keepsRings nth code data)
  | ringBodyWriteComplete nth code => exact State.event_keepsRings (s.bodyWriteCompletes_keepsRings nth code)
  | ringMarkerWriteComplete nth code => exact State.event_keepsRings (s.markerWriteCompletes_keepsRings nth code)
  | repeaterReadComplete nth code data => exact State.event_keepsRings (s.repeaterReadCompletes_keepsRings nth code data)
  | quietGap l levels =>
    show KeepsRings s (if _ then s else _)
    split
    · exact .refl s
    · exact s.wireEvent_keepsRings l levels _ fun u => (u.quietGap_linkSide l).keepsRings
  | recovery l levels =>
    exact State.dueEvent_keepsRings (s.wire_keepsRings l levels _ fun u => (u.recover_linkSide l).keepsRings)
  | startMarkRead l levels => exact s.wireEvent_keepsRings l levels _ fun u => (u.modLink_linkSide l _).keepsRings
  | arbitrationLost l levels =>
    exact s.wireEvent_keepsRings l levels _ fun u => (u.arbitrationLost_linkSide l).keepsRings
  | messageSent l levels => exact s.wireEvent_keepsRings l levels _ fun u => (u.messageSent_linkSide l).keepsRings
  | messageReceived l levels => exact s.wireEvent_keepsRings l levels _ fun u => u.messageReceived_keepsRings l
  | shapeError l levels => exact s.wireEvent_keepsRings l levels _ fun u => (u.shapeError_linkSide l).keepsRings
  | checkError l levels => exact s.wireEvent_keepsRings l levels _ fun u => u.checkError_keepsRings l
  | noConfirmError l levels =>
    exact s.wireEvent_keepsRings l levels _ fun u => (u.sendingError_linkSide l .noConfirm nofun nofun).keepsRings
  | clashError l levels =>
    exact s.wireEvent_keepsRings l levels _ fun u => (u.sendingError_linkSide l .clash nofun nofun).keepsRings
  | stuck l levels => exact s.wireEvent_keepsRings l levels _ fun u => (u.stuckError_linkSide l).keepsRings
  | errorMarkEnd l levels => exact s.wireEvent_keepsRings l levels _ fun u => (u.markEnds_linkSide l).keepsRings
  | quietWake l levels => exact s.wireEvent_keepsRings l levels _ fun u => (u.wake_linkSide l).keepsRings
  | mirrorGapEnd l => exact State.dueEvent_keepsRings (s.mirrorGapEnds_linkSide l).keepsRings
  | mirroredMessageEnd l => exact execMirroredMessageEnd_endsHeld l s
  | autoExpiry p => exact State.dueEvent_keepsRings (s.autoExpires_commSide p).keepsRings
  | replyTimeout p => exact State.dueEvent_keepsRings (s.replyExpires_linkSide 0 p).keepsRings
  | stalenessExpiry p =>
    exact State.dueEvent_keepsRings
      ((s.modPoll_linkSide 0 p _).keepsRings.trans (State.reevaluate_driveSide _).keepsRings)
  | rampEnd c => exact State.dueEvent_keepsRings (s.rampEnds_driveSide c).keepsRings
  | currentConversion c v => exact State.event_keepsRings (s.convert_driveSide c v).keepsRings
  | overcurrentEvent c => exact State.dueEvent_keepsRings (s.overcurrent_driveSide c).keepsRings
  | pulse c => exact State.event_keepsRings (s.pulse_driveSide c).keepsRings
  | endSwitchChange c which active => exact State.undueEvent_keepsRings (s.endSwitch_driveSide c which active).keepsRings
  | dwellExpiry c => exact State.dueEvent_keepsRings (s.toRest_driveSide c .ready).keepsRings
  | stallExpiry c => exact State.dueEvent_keepsRings (s.trip_driveSide c .stall).keepsRings
  | runtimeExpiry c => exact State.dueEvent_keepsRings (s.trip_driveSide c .runtime).keepsRings
  | holdExpiry c => exact State.dueEvent_keepsRings (s.stopMotion_driveSide c .holdLapse).keepsRings
  | eslAssertion =>
    exact State.undueEvent_keepsRings
      ((s.eslTrips_driveSide (chanOrder (Config.eslOrder s.freeCount))).keepsRings.trans (.of_same rfl rfl))
  | eslRelease | attentionPulseEnd | attentionGapEnd => exact State.event_keepsRings (.of_same rfl rfl)
  | repeaterPeriodExpiry => exact State.dueEvent_keepsRings s.periodExpires_keepsRings
  | frameSent => exact State.dueEvent_keepsRings s.frameEnds_keepsRings
  | finishingFrameSent => exact State.dueEvent_keepsRings (.of_same rfl rfl)

theorem EndsHeld.after {s u : State} {o : Host.Outcome State Fault Refusal} (k : EndsHeld u o) (h : KeepsRings s u) :
    EndsHeld s o := by
  cases o with
  | next t => exact h.trans k
  | fault _ | refused _ => trivial

theorem EndsHeld.keepsRings {s : State} {o : Host.Outcome State Fault Refusal} {t : State} (h : EndsHeld s o)
    (ho : o = .next t) : KeepsRings s t := by
  subst ho
  exact h

/-- Settles O37: a step is an idle bit-time, which leaves the rings, or the command at the front. -/
theorem ringsSoundKept : Obligations.RingsSoundKept := by
  intro s t h hstep
  refine (State.ringsSound_iff t).mpr (EndsHeld.keepsRings ?_ hstep ((State.ringsSound_iff s).mp h))
  unfold step
  split
  · exact .of_same s.idle_routers s.idle_ringWriter
  next c _ _ => exact (exec_endsHeld c s.dequeue).after (.of_same rfl rfl)

end Sys2Proof.Machine
end

section
/-! RELEASE, and the entries that a release and an abandonment free (O36). -/

namespace Sys2Proof.Machine

/-! ### RELEASE as a transfer (R100) -/

/-- The transfer of a release under a plan with a GATHER window that holds the entry. -/
theorem exec_release_presents {r : RingId} {e : Fin 64} {id : TransferId} {a : Addr} {s : State}
    (hlt : e.val < (s.ringSettings r).length) (ha : s.plan.windowAddr (.gather r) (32 * e.val) = some a) :
    exec (.release r e id) s = .next (s.presentTransfer (wordWrite id a 0)) := by
  have htransfer : releaseTransfer s.plan r e.val id = some (wordWrite id a 0) := by
    rw [State.ringSettings] at hlt
    simp [releaseTransfer, hlt, ha]
  show Host.Outcome.next (s.request (releaseTransfer s.plan r e.val id)) = _
  rw [htransfer]
  rfl

theorem State.acceptsTrigger_marker (s : State) (r : RingId) (i : Nat) :
    s.acceptsTrigger (.marker r i) 0 = (s.ring r).mayRelease i := rfl

/-- A release taken of an entry that is not RESERVED passes with its notice, and changes no ring before that is delivered. -/
theorem exec_release_accepted {r : RingId} {e : Fin 64} {id : TransferId} {a : Addr} {s : State} (h : s.takesNow = true)
    (hlt : e.val < (s.ringSettings r).length) (ha : s.plan.windowAddr (.gather r) (32 * e.val) = some a)
    (hsees : s.sees a (.marker r e.val) = true) (hcond : (s.ring r).cond e.val ≠ .reserved) :
    exec (.release r e id) s = .next (s.withEntry (triggerEntry id a 0 (s.releaseNotice r e.val))) := by
  obtain ⟨-, -, -, hstaged, -⟩ := s.takesNow_iff.mp h
  have haccepts : s.acceptsTrigger (.marker r e.val) 0 = true :=
    (s.acceptsTrigger_marker r e.val).trans (bne_iff_ne.mpr hcond)
  rw [exec_release_presents hlt ha,
    s.trigger_taken id a 0 (.marker r e.val) h hsees rfl haccepts (Path.grows_refl _)]
  exact congrArg Host.Outcome.next (State.commit_of_empty _ hstaged)

/-- Settles O36: the transfer by `exec_release_accepted` and `State.trigger_withheld`, the run by
`Ring.release_oldest_frees`. -/
theorem releasePassesAndFreesInOrder : Obligations.ReleasePassesAndFreesInOrder := by
  refine ⟨fun r e id a s h hlt ha hsees => ⟨fun hp => ?_, fun hf => ?_, fun hr => ?_⟩,
    fun g i => ⟨fun hne => ?_, fun hp hold hnone => ?_, fun hp hne => ?_, fun hp => ?_⟩,
    fun g n hsound hp hn hrun hstop => ?_⟩
  · rw [exec_release_accepted h hlt ha hsees (by rw [hp]; decide), State.releaseNotice, if_pos hp]
  · rw [exec_release_accepted h hlt ha hsees (by rw [hf]; decide), State.releaseNotice, if_neg (by rw [hf]; decide)]
  · have hrefused : s.acceptsTrigger (.marker r e.val) 0 = false := by
      rw [s.acceptsTrigger_marker, Ring.mayRelease, hr]
      rfl
    exact (exec_release_presents hlt ha).trans
      (congrArg Host.Outcome.next (s.trigger_withheld id a 0 (.marker r e.val) h hsees rfl hrefused))
  · rw [Ring.abandon, if_neg hne]
    rfl
  · subst hold
    have hnone' : g.freeOldest.released = [] := by simp [Ring.freeOldest, hnone]
    rw [Ring.release, if_pos hp, if_pos rfl, Ring.freeRun_of_not_released (by simp [hnone']), Ring.freeOldest, hnone]
    rfl
  · rw [Ring.release, if_pos hp, if_neg hne]
  · rw [Ring.release, if_neg hp]
  · obtain ⟨hlength, hhead, hreserved, hoverflows, -⟩ := g.release_keeps g.oldest
    have hfrees := Ring.release_oldest_frees hsound hp hn hrun hstop
    have hfreed (j : Nat) : (∃ k ≤ n, j = g.place k) ↔ ∃ k < n + 1, j = g.place k := by
      simp only [Nat.lt_succ_iff]
    refine ⟨by rw [hfrees.oldest, Nat.add_comm], hfrees.pending, hhead, hreserved, hlength, hoverflows,
      fun j => ⟨fun hj => hfrees.freed j ((hfreed j).mp hj), fun hj => hfrees.kept j fun hj' => hj ((hfreed j).mpr hj')⟩,
      fun j => ?_⟩
    rw [hfrees.released, ← hfreed]

end Sys2Proof.Machine
end

section
/-! Ring admission and the other ends of routing (O27, O28). -/

namespace Sys2Proof.Machine

/-! ### The Ring Writer's take (R96, R97) -/

theorem State.submitEntry_at {s : State} {h : Handoff} {off : Nat} {a : Addr}
    (ha : s.plan.windowAddr (.gather h.ring) (32 * h.entry + off) = some a) (p : Purpose) (beats : List WriteBeat) :
    s.submitEntry h p off beats = s.submit ⟨p, true, a, beats.length, beats⟩ := by
  rw [State.submitEntry, ha]

/-- A submission for an entry changes the memory path alone. -/
theorem State.submitEntry_eq (s : State) (h : Handoff) (p : Purpose) (off : Nat) (beats : List WriteBeat) :
    ∃ q, s.submitEntry h p off beats = { s with path := q } := by
  unfold State.submitEntry
  split
  · exact ⟨s.path, rfl⟩
  · exact ⟨_, rfl⟩

theorem State.writerTake_of_busy {s : State} (h : s.ringWriter.writing.isSome = true) : s.writerTake = s :=
  State.writerTake_of_none (if_pos h)

/-- The take leaves the rings: the entry it writes was reserved before. -/
theorem State.writerTake_rings (s : State) : s.writerTake.ringWriter.rings = s.ringWriter.rings := by
  cases htakes : s.writerTakes with
  | none => rw [State.writerTake_of_none htakes]
  | some h =>
    obtain ⟨q, hq⟩ := (s.taken h).submitEntry_eq h .ringBody 4 (fullBeats 7 h.body)
    rw [State.writerTake_of_some htakes, hq]
    rfl

theorem State.writerTake_of_empty {s : State} (h : ∀ l, (s.router l).handoff = []) : s.writerTake = s := by
  have hnone : s.nextServed = none := by simp [State.nextServed, State.handoffHead, h]
  exact State.writerTake_of_none (by simp [State.writerTakes, hnone])

/-- Of two links one is the other's other. -/
theorem eq_or_eq_otherLink (l k : LinkId) : l = k ∨ l = otherLink k := by revert l k; decide

theorem ne_otherLink (l : LinkId) : l ≠ otherLink l := by revert l; decide

theorem otherLink_otherLink (l : LinkId) : otherLink (otherLink l) = l := by revert l; decide

/-- The idle Ring Writer takes the head of the only queue that holds a message, whichever link it served last. -/
theorem State.writerTakes_only {s : State} {l : LinkId} {h : Handoff} {hs : List Handoff}
    (hidle : s.ringWriter.writing = none) (hqueue : (s.router l).handoff = h :: hs)
    (hother : (s.router (otherLink l)).handoff = []) : s.writerTakes = some h := by
  have hserved : s.nextServed = some l := by
    rcases eq_or_eq_otherLink s.ringWriter.lastServed l with hlast | hlast
    · simp [State.nextServed, State.handoffHead, hlast, hother, hqueue]
    · simp [State.nextServed, State.handoffHead, hlast, otherLink_otherLink, hqueue]
  simp [State.writerTakes, hidle, hserved, State.handoffHead, hqueue]

/-- The take of a message that waits alone, with the body write it submits. -/
theorem State.writerTake_only {s : State} {l : LinkId} {h : Handoff} {hs : List Handoff}
    (hidle : s.ringWriter.writing = none) (hqueue : (s.router l).handoff = h :: hs)
    (hother : (s.router (otherLink l)).handoff = []) :
    s.writerTake = (s.taken h).submitEntry h .ringBody 4 (fullBeats 7 h.body) :=
  State.writerTake_of_some (State.writerTakes_only hidle hqueue hother)

/-! ### The body of an entry (Table 11-12) -/

theorem leBytes_two (v : BitVec 16) : leBytes 2 v.toNat = [v.setWidth 8, (v >>> 8).setWidth 8] := by
  simp only [leBytes, List.cons.injEq, and_true]
  constructor <;> (apply BitVec.eq_of_toNat_eq; simp [Nat.shiftRight_eq_div_pow])

theorem leBytes_four (v : BitVec 32) : leBytes 4 v.toNat =
    [v.setWidth 8, (v >>> 8).setWidth 8, (v >>> 16).setWidth 8, (v >>> 24).setWidth 8] := by
  simp only [leBytes, List.cons.injEq, and_true]
  refine ⟨?_, ?_, ?_, ?_⟩ <;>
    (apply BitVec.eq_of_toNat_eq; simp [Nat.shiftRight_eq_div_pow, Nat.div_div_eq_div_mul])

/-- The body of an undamaged message, byte after byte. -/
theorem Handoff.body_undamaged (h : Handoff) (hd : h.damage = .none) : h.body =
    [BitVec.ofNat 8 h.link.val, BitVec.ofNat 8 h.sieve, BitVec.ofNat 8 h.message.kind.code,
        BitVec.ofNat 8 h.message.length, h.message.tag.setWidth 8, (h.message.tag >>> 8).setWidth 8, 0, 0,
        h.stamp.setWidth 8, (h.stamp >>> 8).setWidth 8, (h.stamp >>> 16).setWidth 8, (h.stamp >>> 24).setWidth 8]
      ++ (h.message.payload.take 16 ++ List.replicate (16 - h.message.payload.length) 0) := by
  rw [Handoff.body, leBytes_two, leBytes_four, hd]
  rfl

/-! ### Admission (R95) -/

section
variable {s : State} {l : LinkId} {r : RingId}

theorem State.intoRing_overrun (h : 2 ≤ (s.router l).handoff.length) (k : Nat) (m : Message) (d : Damage) (t : Stamp) :
    s.intoRing l r k m d t = (s.modRouter l fun q => { q with overruns := satInc q.overruns }).raise .overflow := by
  rw [State.intoRing, if_pos h]
  exact congrArg (fun v => State.raise { s with routers := v } .overflow) (update_congr _ _ rfl)

theorem State.intoRing_overflow (h : (s.router l).handoff.length < 2) (hfull : (s.ring r).full = true) (k : Nat)
    (m : Message) (d : Damage) (t : Stamp) :
    s.intoRing l r k m d t = (s.modRing r fun g => { g with overflows := satInc g.overflows }).raise .overflow := by
  rw [State.intoRing, if_neg (Nat.not_le.mpr h), if_pos hfull]
  exact congrArg (fun v => State.raise { s with ringWriter := { s.ringWriter with rings := v } } .overflow)
    (update_congr _ _ rfl)

theorem State.intoRing_admitted (h : (s.router l).handoff.length < 2)
    (hroom : (s.ring r).pending + (s.ring r).reserved < (s.ring r).length) (k : Nat) (m : Message) (d : Damage) (t : Stamp) :
    s.intoRing l r k m d t = (s.ringAdmitted ⟨l, r, (s.ring r).head, k, m, d, t⟩).writerTake := by
  have hfull : ¬ (s.ring r).full = true := by simpa [Ring.full] using hroom
  rw [State.intoRing, if_neg (Nat.not_le.mpr h), if_neg hfull]
  rfl

/-- A message admitted while nothing else is on its way is taken at once: the queues are as before, and the body write is
submitted. -/
theorem State.writerTake_admitted {h : Handoff} {a : Addr} (hidle : s.ringWriter.writing = none)
    (hempty : ∀ l, (s.router l).handoff = [])
    (ha : s.plan.windowAddr (.gather h.ring) (32 * h.entry + 4) = some a) :
    (s.ringAdmitted h).writerTake =
      { s with
        ringWriter :=
          { rings := update s.ringWriter.rings h.ring Ring.reserve, writing := some ⟨h, false⟩, lastServed := h.link }
        path := { s.path with staged := s.path.staged ++ [⟨.ringBody, true, a, 7, fullBeats 7 h.body⟩] } } := by
  have hrouter (k : LinkId) : ((s.ringAdmitted h).router k).handoff = if h.link = k then [h] else [] := by
    rw [State.handoff_ringAdmitted, hempty, List.nil_append]
  have hqueue : ((s.ringAdmitted h).router h.link).handoff = [h] := (hrouter _).trans (if_pos rfl)
  have hother : ((s.ringAdmitted h).router (otherLink h.link)).handoff = [] :=
    (hrouter _).trans (if_neg (ne_otherLink _))
  rw [State.writerTake_only (s := s.ringAdmitted h) hidle hqueue hother,
    State.submitEntry_at (s := (s.ringAdmitted h).taken h) ha]
  have hrouters : update (update s.routers h.link fun q => { q with handoff := q.handoff ++ [h] }) h.link
      (fun q => { q with handoff := q.handoff.tail }) = s.routers := by
    rw [update_update]
    refine update_eq_self _ _ ?_
    have hnil : (look s.routers h.link).handoff = [] := hempty h.link
    revert hnil
    obtain ⟨queue, unrouted, overruns⟩ := look s.routers h.link
    rintro (rfl : queue = [])
    rfl
  exact congrArg (fun v => State.submit { s with
      routers := v
      ringWriter :=
        { rings := update s.ringWriter.rings h.ring Ring.reserve, writing := some ⟨h, false⟩, lastServed := h.link } }
    ⟨.ringBody, true, a, 7, fullBeats 7 h.body⟩) hrouters

end

/-! ### A message on its way to the sieves (R87 to R91) -/

section
variable {s : State} {l : LinkId} {m : Message} {t : Stamp}

/-- A DATA message that is no command goes by the HEAR entries to the sieves. -/
theorem State.routeGood_unbound (hdata : m.kind = .data) (hbinding : s.bindingFor l m.tag = none) :
    s.routeGood l m t = (s.hear l m t).sift l m t := by
  simp only [State.routeGood, hdata, hbinding]

theorem State.routeGood_unheard (hdata : m.kind = .data) (hbinding : s.bindingFor l m.tag = none)
    (hhear : s.hearFor l m.tag = none) : s.routeGood l m t = s.sift l m t := by
  rw [State.routeGood_unbound hdata hbinding, State.hear, hhear]

theorem State.sift_ring {k : Fin 16} {r : RingId} (h : s.sieveFor l m = some (k, .ring r)) :
    s.sift l m t = s.intoRing l r k.val m .none t := by
  rw [State.sift, h]

theorem State.sift_drop {k : Fin 16} (h : s.sieveFor l m = some (k, .drop)) : s.sift l m t = s := by
  rw [State.sift, h]

theorem State.sift_unrouted (h : s.sieveFor l m = none) :
    s.sift l m t = s.modRouter l fun q => { q with unrouted := satInc q.unrouted } := by
  rw [State.sift, h]
  exact congrArg (fun v => ({ s with routers := v } : State)) (update_congr _ _ rfl)

end

/-- Settles O27: the sieves lead to `State.intoRing`, whose three ends are `intoRing_overrun`, `intoRing_overflow` and
`intoRing_admitted`; the Ring Writer's take is `writerTake_of_busy` or `writerTake_admitted`. -/
theorem sievedMessageIsAdmitted : Obligations.SievedMessageIsAdmitted := by
  intro s l m now k r hdata hbinding hhear hsieve
  have hroute : s.routeGood l m now = s.intoRing l r k.val m .none now :=
    (State.routeGood_unheard hdata hbinding hhear).trans (State.sift_ring hsieve)
  rw [hroute]
  refine ⟨fun h => State.intoRing_overrun h _ m _ now, fun h hfull => ?_, fun h hroom hbusy => ?_,
    fun a hroom hidle hzero hone ha => ?_⟩
  · exact State.intoRing_overflow h (decide_eq_true hfull) _ m _ now
  · rw [State.intoRing_admitted h hroom]
    exact State.writerTake_of_busy (s := s.ringAdmitted _) hbusy
  · have hempty (l : LinkId) : (s.router l).handoff = [] := by
      rcases linkId_zero_or_one l with rfl | rfl
      · exact hzero
      · exact hone
    intro body
    have hbody := Handoff.body_undamaged ⟨l, r, (s.ring r).head, k.val, m, .none, now⟩ rfl
    rw [State.intoRing_admitted (by simp [hempty l]) hroom]
    refine (State.writerTake_admitted (h := ⟨l, r, (s.ring r).head, k.val, m, .none, now⟩) hidle hempty ha).trans ?_
    rw [hbody]
    rfl

/-! ### The other ends of routing (R88 to R93) -/

/-- A value stored in an entry (R112, R114): the guards judged afresh leave the poll cache. -/
theorem State.storeValue_pollEntry (s : State) (p q : PollId) (m : Message) (t : Stamp) :
    (s.storeValue p m t).pollEntry q =
      if p = q then (s.pollEntry p).store m.payload t (staleExpiry (s.maxAge p) t) else s.pollEntry q := by
  have hpoll := (State.reevaluate_driveSide (s.modPoll p fun e => e.store m.payload t (staleExpiry (s.maxAge p) t))).poll
  refine (congrArg (fun u : PollUnit => look u.entries q) hpoll).trans ((State.pollEntry_modPoll s p q _).trans ?_)
  split
  next heq => rw [heq]
  next => rfl

/-- It changes no router and no ring. -/
theorem State.storeValue_receive (s : State) (p : PollId) (m : Message) (t : Stamp) :
    (s.storeValue p m t).routers = s.routers ∧ (s.storeValue p m t).ringWriter = s.ringWriter := by
  have hside := State.reevaluate_driveSide (s.modPoll p fun e => e.store m.payload t (staleExpiry (s.maxAge p) t))
  exact ⟨hside.routers, hside.ringWriter⟩

/-- A REPLY stored (R112), from whatever state its entry waits in. -/
theorem State.storeReply_pollEntry (s : State) (l : LinkId) (p : PollId) (m : Message) (t : Stamp) :
    (s.storeReply l p m t).pollEntry p = (s.pollEntry p).store m.payload t (staleExpiry (s.maxAge p) t) := by
  unfold State.storeReply
  split
  · refine (congrArg (look · p) (State.pollTake_entries _ l)).trans ?_
    exact (State.storeValue_pollEntry _ p p m t).trans (if_pos rfl)
  · exact (s.storeValue_pollEntry p p m t).trans (if_pos rfl)

/-- The sieves are the plan's, which a stored value leaves in force. -/
theorem State.storeValue_sieveFor (s : State) (p : PollId) (m x : Message) (t : Stamp) (l : LinkId) :
    (s.storeValue p m t).sieveFor l x = s.sieveFor l x := by
  rw [State.sieveFor, State.plan, (s.storeValue_inner p m t).loader]
  rfl

/-- The sieves and ring admission leave the poll cache. -/
theorem State.sift_pollEntry (s : State) (l : LinkId) (m : Message) (t : Stamp) (q : PollId) :
    (s.sift l m t).pollEntry q = s.pollEntry q :=
  congrArg (fun u : PollUnit => look u.entries q) (s.sift_ringOnly l m t).poll

/-- A DATA message that a HEAR entry captures goes on to the sieves (R90). -/
theorem State.routeGood_heard {s : State} {l : LinkId} {m : Message} {p : PollId} (hdata : m.kind = .data)
    (hbinding : s.bindingFor l m.tag = none) (hhear : s.hearFor l m.tag = some p) (t : Stamp) :
    s.routeGood l m t = (s.storeValue p m t).sift l m t := by
  rw [State.routeGood_unbound hdata hbinding, State.hear, hhear]

/-- An admitted message reserves one entry of its ring. -/
theorem State.intoRing_reserved {s : State} {l : LinkId} {r : RingId} (h : (s.router l).handoff.length < 2)
    (hroom : (s.ring r).pending + (s.ring r).reserved < (s.ring r).length) (k : Nat) (m : Message) (d : Damage) (t : Stamp) :
    ((s.intoRing l r k m d t).ring r).reserved = (s.ring r).reserved + 1 := by
  rw [State.intoRing_admitted h hroom, State.ring, State.writerTake_rings]
  exact congrArg Ring.reserved (s.ring_modRing_self r Ring.reserve)

/-- Settles O28: DATA by `routeGood_unheard` and `routeGood_heard`, a REPLY by `storeReply_pollEntry`; a damaged message is
tried by the sieves alone. -/
theorem routingEnds : Obligations.RoutingEnds := by
  intro s l m now
  refine ⟨fun k hdata hbinding hhear hsieve => ?_, fun hdata hbinding hhear hsieve => ?_, fun p hreply hfor => ?_,
    fun c hdata hbinding hlength => ?_, fun p set hdata hbinding hhear hset => ?_, fun k r hsieve hkeep => ?_,
    fun hends => ?_⟩
  · rw [State.routeGood_unheard hdata hbinding hhear, State.sift_drop hsieve]
  · rw [State.routeGood_unheard hdata hbinding hhear, State.sift_unrouted hsieve]
  · have hroute : s.routeGood l m now = s.storeReply l p m now := by
      simp only [State.routeGood, hreply, hfor]
    intro e
    have he : e = (s.pollEntry p).store m.payload now (staleExpiry (s.maxAge p) now) :=
      (congrArg (State.pollEntry · p) hroute).trans (s.storeReply_pollEntry l p m now)
    rw [he]
    exact ⟨rfl, rfl, rfl, rfl, rfl⟩
  · have hroute : s.routeGood l m now = s.deckCommand c l m := by
      simp only [State.routeGood, hdata, hbinding]
    rw [hroute, State.deckCommand, if_neg (Nat.not_lt.mpr hlength)]
    rfl
  · obtain ⟨hrouters, hwriter⟩ := s.storeValue_receive p m now
    have hrouter : (s.storeValue p m now).router l = s.router l := congrArg (look · l) hrouters
    have hring (r : RingId) : (s.storeValue p m now).ring r = s.ring r :=
      congrArg (fun w : RingWriter => look w.rings r) hwriter
    have hsieves := s.storeValue_sieveFor p m m now l
    intro t
    rw [show t = (s.storeValue p m now).sift l m now from State.routeGood_heard hdata hbinding hhear now]
    refine ⟨?_, fun q hq => ?_, fun hnone => ?_, fun k hdrop => ?_, fun k r hto hlength hroom => ?_⟩
    · have hage : s.maxAge p = set.maxAge := by
        rw [State.maxAge, hset]
        rfl
      rw [State.sift_pollEntry, s.storeValue_pollEntry, if_pos rfl, hage]
      rfl
    · rw [State.sift_pollEntry, s.storeValue_pollEntry, if_neg (Ne.symm hq)]
    · rw [State.sift_unrouted (hsieves.trans hnone), State.router_modRouter_self, hrouter]
    · rw [State.sift_drop (hsieves.trans hdrop)]
      exact ⟨hrouters, hwriter⟩
    · rw [State.sift_ring (hsieves.trans hto), State.intoRing_reserved (by rw [hrouter]; exact hlength)
        (by rw [hring]; exact hroom), hring]
  · rw [State.routeDamaged, hsieve]
    exact if_pos hkeep
  · unfold State.routeDamaged
    obtain hnone | ⟨k, hdrop⟩ | ⟨k, r, hto, hkeep⟩ := hends
    · rw [hnone]
    · rw [hdrop]
    · rw [hto]
      exact if_neg (by rw [hkeep]; decide)

end Sys2Proof.Machine
end

section
/-! The completions of an entry's two writes (O35). -/

namespace Sys2Proof.Machine

/-! ### A write's completion (R19, R98) -/

/-- A write in flight is answered without words. -/
theorem State.answeredPurpose_write {s : State} {nth : Nat} {r : Request} (hr : s.path.inFlight[nth]? = some r)
    (hwrite : r.isWrite = true) (code : DownCode) : s.answeredPurpose nth code 0 = some r.purpose := by
  simp [State.answeredPurpose, Path.answered, hr, hwrite]

section
variable {s : State} {nth : Nat} {r : Request} {w : Writing}

theorem exec_ringBodyWriteComplete (hrun : s.running = true) (hr : s.path.inFlight[nth]? = some r)
    (hpurpose : r.purpose = .ringBody) (hwrite : r.isWrite = true) (code : DownCode) :
    exec (.ringBodyWriteComplete nth code) s = .next ((s.complete nth code).bodyWritten code).commit := by
  show Host.Outcome.next (s.event fun t => t.bodyWriteCompletes nth code) = _
  rw [State.event_of_running s _ (State.running_inReset hrun), State.bodyWriteCompletes,
    State.answeredPurpose_write hr hwrite, hpurpose]

theorem exec_ringMarkerWriteComplete (hrun : s.running = true) (hr : s.path.inFlight[nth]? = some r)
    (hpurpose : r.purpose = .ringMarker) (hwrite : r.isWrite = true) (code : DownCode) :
    exec (.ringMarkerWriteComplete nth code) s = .next ((s.complete nth code).markerWritten code).commit := by
  show Host.Outcome.next (s.event fun t => t.markerWriteCompletes nth code) = _
  rw [State.event_of_running s _ (State.running_inReset hrun), State.markerWriteCompletes,
    State.answeredPurpose_write hr hwrite, hpurpose]

/-! ### The Ring Writer's next message (R96, R98, R99) -/

/-- The body written: the marker write is submitted (R98). -/
theorem State.bodyWritten_okay {a : Addr} (hw : s.ringWriter.writing = some w)
    (ha : s.plan.windowAddr (.gather w.handoff.ring) (32 * w.handoff.entry) = some a) :
    s.bodyWritten .okay =
      (s.modRingWriter fun x => { x with writing := some { w with marker := true } }).submit
        ⟨.ringMarker, true, a, 1, [fullBeat 1]⟩ := by
  rw [State.bodyWritten, hw]
  exact State.submitEntry_at (s := s.modRingWriter _) (off := 0) ha _ _

theorem State.bodyWritten_other (hw : s.ringWriter.writing = some w) :
    s.bodyWritten .other = (s.modRing w.handoff.ring fun g => g.abandon w.handoff.entry).writerDone := by
  rw [State.bodyWritten, hw]
  rfl

theorem State.markerWritten_okay (hw : s.ringWriter.writing = some w) :
    s.markerWritten .okay = ((s.modRing w.handoff.ring fun g => g.fill w.handoff.entry).raise .received).writerDone := by
  rw [State.markerWritten, hw]

/-- With no message waiting the Ring Writer is idle. -/
theorem State.writerDone_of_empty (h : ∀ l, (s.router l).handoff = []) :
    s.writerDone = s.modRingWriter fun x => { x with writing := none } :=
  State.writerTake_of_empty (s := s.modRingWriter _) h

/-- A message that waits alone is taken as soon as the Ring Writer is done. -/
theorem State.writerDone_only {l : LinkId} {h : Handoff} {hs : List Handoff}
    (hqueue : (s.router l).handoff = h :: hs) (hother : (s.router (otherLink l)).handoff = []) :
    s.writerDone = (s.taken h).submitEntry h .ringBody 4 (fullBeats 7 h.body) :=
  State.writerTake_only (s := s.modRingWriter fun x => { x with writing := none }) rfl hqueue hother

/-- The marker written with one message waiting: the entry is PENDING, and the message is taken (R96, R98). -/
theorem exec_ringMarkerWriteComplete_next {l : LinkId} {h : Handoff} {hs : List Handoff} (hrun : s.running = true)
    (hr : s.path.inFlight[nth]? = some r) (hpurpose : r.purpose = .ringMarker) (hwrite : r.isWrite = true)
    (hw : s.ringWriter.writing = some w) (hqueue : (s.router l).handoff = h :: hs)
    (hother : (s.router (otherLink l)).handoff = []) :
    exec (.ringMarkerWriteComplete nth .okay) s = .next
      (((((s.landed nth).modRing w.handoff.ring fun g => g.fill w.handoff.entry).raise .received).taken h).submitEntry h
        .ringBody 4 (fullBeats 7 h.body)).commit := by
  rw [exec_ringMarkerWriteComplete hrun hr hpurpose hwrite, s.complete_okay, State.markerWritten_okay (s := s.landed nth) hw]
  exact congrArg (fun u => Host.Outcome.next (State.commit u))
    (State.writerDone_only (s := State.raise ((s.landed nth).modRing _ _) .received) hqueue hother)

end

/-- Settles O35: each completion by its `exec_` lemma, and what the Ring Writer does next by `writerDone_of_empty` or
`exec_ringMarkerWriteComplete_next`. -/
theorem ringWritesComplete : Obligations.RingWritesComplete := by
  refine ⟨fun s nth r w hrun hr hpurpose hwrite hw => ?_, fun s nth r w hrun hr hpurpose hwrite hw => ?_⟩
  all_goals have hstaged := State.running_staged hrun
  · refine ⟨fun a ha => ?_, fun hempty => ?_⟩
    · rw [exec_ringBodyWriteComplete hrun hr hpurpose hwrite, s.complete_okay,
        State.bodyWritten_okay (s := s.landed nth) hw ha]
      exact congrArg Host.Outcome.next (State.commit_submit _ _ hstaged (Purpose.rank_lt _))
    · rw [exec_ringBodyWriteComplete hrun hr hpurpose hwrite, State.bodyWritten_other (s := s.complete nth .other) hw,
        State.writerDone_of_empty (s := State.modRing (s.complete nth .other) _ _) hempty]
      exact congrArg Host.Outcome.next (State.commit_of_empty _ hstaged)
  · refine ⟨fun hempty => ?_, fun l h hs hqueue hlink hother => ?_⟩
    · rw [exec_ringMarkerWriteComplete hrun hr hpurpose hwrite, s.complete_okay,
        State.markerWritten_okay (s := s.landed nth) hw,
        State.writerDone_of_empty (s := State.raise ((s.landed nth).modRing _ _) .received) hempty]
      exact congrArg Host.Outcome.next (State.commit_of_empty _ hstaged)
    · subst hlink
      let u := State.raise ((s.landed nth).modRing w.handoff.ring fun g => g.fill w.handoff.entry) .received
      have hrouter : ((u.taken h).router h.link).handoff = hs := by
        rw [State.router_taken, if_pos rfl]
        exact congrArg List.tail hqueue
      obtain ⟨q, hq⟩ := (u.taken h).submitEntry_eq h .ringBody 4 (fullBeats 7 h.body)
      refine ⟨_, exec_ringMarkerWriteComplete_next hrun hr hpurpose hwrite hw hqueue hother,
        by rw [hq]; exact State.raise_caused _ .received, by rw [hq]; rfl, by rw [hq]; rfl, by rw [hq]; exact hrouter,
        by rw [hq]; exact ⟨rfl, rfl, rfl, rfl⟩, by rw [hq]; exact ⟨rfl, rfl⟩, fun a ha => ?_⟩
      rw [State.submitEntry_at (s := u.taken h) ha, (u.taken h).commit_submit _ hstaged (Purpose.rank_lt _)]
      rfl

end Sys2Proof.Machine
end

section
/-! The poll request queues (R84, R108, R109): when an entry may be queued, what queuing it makes of its link, and the entries
of a list queued one after another. -/

namespace Sys2Proof.Machine

/-! ### When an entry may be queued (R108, R110) -/

/-- Whether an entry may be queued is up to the plan, its own state and the modes of the links. -/
theorem State.pollMayQueue_congr {s t : State} {p : PollId} (hloader : t.loader = s.loader)
    (hstate : (t.pollEntry p).state = (s.pollEntry p).state) (hmode : ∀ l, (t.link l).mode = (s.link l).mode) :
    t.pollMayQueue p = s.pollMayQueue p := by
  simp only [State.pollMayQueue, State.pollSettings, State.plan, hloader, hstate, hmode]

/-- An entry that may not be queued stays as it is, and so does all else. -/
theorem State.queuePoll_of_none {s : State} {p : PollId} (h : s.pollMayQueue p = none) : s.queuePoll p = s := by
  rw [State.queuePoll, h]

/-- The state in which an entry has joined the request queue of a link, before the poll sender's take. -/
def State.requested (s : State) (l : LinkId) (p : PollId) : State :=
  (s.modPoll p fun e => { e with state := .queued }).modPollQueue l fun q => q ++ [p]

theorem State.requested_pollQueue (s : State) (l : LinkId) (p : PollId) :
    (s.requested l p).pollQueue l = s.pollQueue l ++ [p] := look_update_self _ _ _

theorem State.queuePoll_of_some {s : State} {p : PollId} {l : LinkId} (h : s.pollMayQueue p = some l) :
    s.queuePoll p = (s.requested l p).pollTake l := by
  rw [State.queuePoll, h]
  rfl

theorem State.queuePoll_pollEntry_self (s : State) (p : PollId) : (s.queuePoll p).pollEntry p =
    if (s.pollMayQueue p).isSome then { s.pollEntry p with state := .queued } else s.pollEntry p := by
  cases h : s.pollMayQueue p with
  | none => rw [State.queuePoll_of_none h]; rfl
  | some l => rw [State.queuePoll_of_some h]; exact s.pollEntry_modPoll_self p _

theorem State.queuePoll_pollEntry_ne (s : State) {p q : PollId} (hne : q ≠ p) :
    (s.queuePoll p).pollEntry q = s.pollEntry q := by
  cases h : s.pollMayQueue p with
  | none => rw [State.queuePoll_of_none h]
  | some l => rw [State.queuePoll_of_some h]; exact look_update_of_ne _ _ hne.symm

theorem State.queuePoll_status (s : State) (p : PollId) : (s.queuePoll p).status = s.status := by
  unfold State.queuePoll
  split <;> rfl

theorem State.queuePoll_mode (s : State) (p : PollId) (m : LinkId) :
    ((s.queuePoll p).link m).mode = (s.link m).mode := by
  cases h : s.pollMayQueue p with
  | none => rw [State.queuePoll_of_none h]
  | some l =>
    rw [State.queuePoll_of_some h]
    exact congrArg (·.1) ((s.requested l p).pollTake_standing l m)

/-- Queuing one entry decides nothing for another. -/
theorem State.queuePoll_pollMayQueue (s : State) {p q : PollId} (hne : q ≠ p) :
    (s.queuePoll p).pollMayQueue q = s.pollMayQueue q :=
  State.pollMayQueue_congr (s.queuePoll_commSide p).loader (congrArg PollEntry.state (s.queuePoll_pollEntry_ne hne))
    (s.queuePoll_mode p)

/-- An entry of another link, or one that may not be queued, leaves a link with its Send Controller and its requests. -/
theorem State.queuePoll_otherLink {s : State} {p : PollId} {l : LinkId} (h : s.pollMayQueue p ≠ some l) :
    (s.queuePoll p).link l = s.link l ∧ (s.queuePoll p).sender l = s.sender l
      ∧ (s.queuePoll p).pollQueue l = s.pollQueue l := by
  cases hm : s.pollMayQueue p with
  | none =>
    rw [State.queuePoll_of_none hm]
    exact ⟨rfl, rfl, rfl⟩
  | some m => exact (s.queuePoll_linkSide p m hm).others l fun hl => h (hl ▸ hm)

/-! ### The chance of the send queue's head (R51, R64, R76) -/

theorem LinkCtl.withItem_canTake (k : LinkCtl) (m : Message) (r : ItemRef) : (k.withItem m r).canTake = false := by
  by_cases hmode : k.mode = .mirror
  · simp [LinkCtl.canTake, LinkCtl.withItem, hmode]
  · exact LinkCtl.canTake_of_not_mirror hmode (by simp [LinkCtl.withItem, hmode])

/-- After its chance a link may not take at once again, or finds nothing more to take. -/
theorem State.kick_rests (s : State) (l : LinkId) :
    ((s.kick l).link l).canTake = false ∨ ((s.kick l).sender l).queue = [] := by
  cases htake : (s.link l).canTake with
  | false => exact .inl (by rw [State.kick_idle (.inl htake), htake])
  | true =>
    cases hq : (s.sender l).queue with
    | nil => exact .inr (by rw [State.kick_idle (.inr hq), hq])
    | cons x xs =>
      rw [State.kick_takes htake hq]
      exact .inl ((congrArg LinkCtl.canTake (look_update_self _ _ _)).trans (LinkCtl.withItem_canTake _ _ _))

/-- An ASK that goes on the wire is still its entry's. -/
theorem State.kick_askEntry (s : State) (l : LinkId) :
    ((s.kick l).sender l).pollAsk.map (·.entry) = (s.sender l).pollAsk.map (·.entry) := by
  have hgive : (s.kick l).sender l = (s.sender l).giveHead (s.link l) := look_update_self _ _ _
  rw [hgive, SendCtl.giveHead]
  split
  · rfl
  next x _ =>
    cases x.ref with
    | slot i => rfl
    | poll => exact Option.map_map ..

/-! ### The poll sender's take, whatever its link does (R84) -/

theorem State.pollTake_eq_kick {s : State} {l : LinkId} (h : s.pollTakes l = none) : s.pollTake l = s.kick l := by
  rw [State.pollTake, h]
  dsimp only
  rw [update_eq_self s.senders l rfl, update_eq_self s.poll.queues l rfl]

/-- The state in which the poll sender has taken the head of its request queue and enqueued its ASK. -/
def State.asked (s : State) (l : LinkId) (p : PollId) : State :=
  { s with
    senders := update s.senders l fun _ => s.withAsk l p
    poll := { s.poll with queues := update s.poll.queues l List.tail } }

theorem State.asked_sender (s : State) (l : LinkId) (p : PollId) : (s.asked l p).sender l = s.withAsk l p :=
  look_update_self _ _ _

theorem State.pollTake_eq_asked {s : State} {l : LinkId} {p : PollId} (h : s.pollTakes l = some p) :
    s.pollTake l = (s.asked l p).kick l := by
  have hsenders : update s.senders l (fun c => c.enqueueAsk p (((s.pollSettings p).map (·.tag)).getD 0)
      (s.linkSettings l).pollPriority) = update s.senders l fun _ => s.withAsk l p :=
    update_congr _ _ (s.enqueueAsk_eq_withAsk l p)
  rw [State.pollTake, h, State.asked, ← hsenders]
  rfl

/-! ### One entry queued (R84, R109) -/

section
variable {s : State} {p : PollId} {l : LinkId} (h : s.pollMayQueue p = some l)
include h

/-- A poll sender that holds an ASK leaves the entry at the tail of the request queue. -/
theorem State.queuePoll_held (hask : (s.sender l).pollAsk.isSome = true) : s.queuePoll p = (s.requested l p).kick l :=
  (State.queuePoll_of_some h).trans (State.pollTake_eq_kick (State.pollTakes_held (s := s.requested l p) hask))

/-- A poll sender that holds none takes the head. -/
theorem State.queuePoll_free (hask : (s.sender l).pollAsk = none) {q : PollId} {ps : List PollId}
    (hq : s.pollQueue l ++ [p] = q :: ps) : s.queuePoll p = ((s.requested l p).asked l q).kick l := by
  have htakes : (s.requested l p).pollTakes l = some q := by
    rw [State.pollTakes_free (s := s.requested l p) hask, s.requested_pollQueue, hq]
    rfl
  exact (State.queuePoll_of_some h).trans (State.pollTake_eq_asked htakes)

end

/-- The poll sender of a link holds an ASK, and its link has nothing to take: a further request only waits. -/
def State.pollsWait (s : State) (l : LinkId) : Prop :=
  (s.sender l).pollAsk.isSome = true ∧ ((s.link l).canTake = false ∨ (s.sender l).queue = [])

theorem State.kick_pollsWait {s : State} {l : LinkId} (h : (s.sender l).pollAsk.isSome = true) :
    (s.kick l).pollsWait l := by
  refine ⟨?_, s.kick_rests l⟩
  rw [← Option.isSome_map (f := PollAsk.entry), s.kick_askEntry, Option.isSome_map]
  exact h

theorem State.queuePoll_pollsWait {s : State} {p : PollId} {l : LinkId} (h : s.pollMayQueue p = some l) :
    (s.queuePoll p).pollsWait l := by
  cases hask : (s.sender l).pollAsk with
  | some a =>
    have hheld : (s.sender l).pollAsk.isSome = true := Option.isSome_of_eq_some hask
    rw [State.queuePoll_held h hheld]
    exact State.kick_pollsWait hheld
  | none =>
    obtain ⟨q, ps, hq⟩ := List.exists_cons_of_ne_nil
      (List.append_ne_nil_of_right_ne_nil (s.pollQueue l) (List.cons_ne_nil p []))
    rw [State.queuePoll_free h hask hq]
    exact State.kick_pollsWait (by rw [State.asked_sender]; rfl)

/-- Of a link only the request queue has changed: the entries `new` have joined its tail. -/
structure PollsJoin (l : LinkId) (new : List PollId) (s t : State) : Prop where
  queue : t.pollQueue l = s.pollQueue l ++ new
  sender : t.sender l = s.sender l
  link : t.link l = s.link l

theorem PollsJoin.pollsWait {l : LinkId} {new : List PollId} {s t : State} (h : PollsJoin l new s t)
    (hwait : s.pollsWait l) : t.pollsWait l := by
  rw [State.pollsWait, h.sender, h.link]
  exact hwait

theorem PollsJoin.trans {l : LinkId} {new more : List PollId} {s t u : State} (h : PollsJoin l new s t)
    (k : PollsJoin l more t u) : PollsJoin l (new ++ more) s u where
  queue := by rw [k.queue, h.queue, List.append_assoc]
  sender := k.sender.trans h.sender
  link := k.link.trans h.link

theorem State.queuePoll_otherJoin {s : State} {p : PollId} {l : LinkId} (h : s.pollMayQueue p ≠ some l) :
    PollsJoin l [] s (s.queuePoll p) := by
  obtain ⟨hlink, hsender, hqueue⟩ := State.queuePoll_otherLink h
  exact ⟨hqueue.trans (List.append_nil _).symm, hsender, hlink⟩

theorem State.queuePoll_joins {s : State} {p : PollId} {l : LinkId} (h : s.pollMayQueue p = some l)
    (hwait : s.pollsWait l) : PollsJoin l [p] s (s.queuePoll p) := by
  obtain ⟨hask, hrest⟩ := hwait
  rw [State.queuePoll_held h hask, State.kick_idle (s := s.requested l p) hrest]
  exact ⟨s.requested_pollQueue l p, rfl, rfl⟩

/-- The first entry queued on a link: it waits behind those before it, or the poll sender takes the head (R84). -/
theorem State.queuePoll_offers {s : State} {p : PollId} {l : LinkId} (h : s.pollMayQueue p = some l) :
    s.offersPolls (s.queuePoll p) l [p] := by
  refine ⟨nofun, fun _ hask => ?_, fun _ hask q ps hq => ?_⟩
  · rw [State.queuePoll_held h hask]
    refine ⟨s.requested_pollQueue l p, (s.requested l p).kick_askEntry l, fun htake => ?_⟩
    rw [State.kick_idle (s := s.requested l p) (.inl htake)]
    exact ⟨rfl, rfl⟩
  · have hsender : ((s.requested l p).asked l q).sender l = s.withAsk l q := State.asked_sender _ l q
    rw [State.queuePoll_free h hask hq]
    refine ⟨?_, ?_, fun htake => ?_, fun htake hempty => ?_⟩
    · refine (look_update_self _ _ _).trans ?_
      exact congrArg List.tail ((s.requested_pollQueue l p).trans hq)
    · rw [State.kick_askEntry, hsender]
      rfl
    · rw [State.kick_idle (s := (s.requested l p).asked l q) (.inl htake)]
      exact ⟨hsender, rfl⟩
    · have hgiven := congrArg (fun c => SendCtl.putOnWire { c with queue := [] } .poll) hsender
      have hqueue : (((s.requested l p).asked l q).sender l).queue =
          [⟨.poll, (s.linkSettings l).pollPriority, (s.sender l).acceptCount + 1⟩] := by
        rw [hsender, State.withAsk, hempty]
        rfl
      rw [State.kick_takes (s := (s.requested l p).asked l q) htake hqueue, hsender]
      exact ⟨congrArg LinkCtl.item (look_update_self _ _ _), (look_update_self _ _ _).trans hgiven⟩

/-! ### Offers, one after another -/

theorem State.offersPolls_nil {s t : State} {l : LinkId} (h : PollsJoin l [] s t) : s.offersPolls t l [] :=
  ⟨fun _ => ⟨h.queue.trans (List.append_nil _), h.sender, h.link⟩, fun hne => absurd rfl hne, fun hne => absurd rfl hne⟩

/-- What a link offers from a state is what it offers from any other that has the same plan and the same link. -/
theorem State.offersPolls_after {s u t : State} {l : LinkId} {new : List PollId} (h : u.offersPolls t l new)
    (hloader : u.loader = s.loader) (hsame : PollsJoin l [] s u) : s.offersPolls t l new := by
  have hqueue : u.pollQueue l = s.pollQueue l := hsame.queue.trans (List.append_nil _)
  simpa only [State.offersPolls, State.withAsk, State.linkSettings, State.pollSettings, State.plan, hloader, hqueue,
    hsame.sender, hsame.link] using h

/-- Entries that join the request queue behind those offered. -/
theorem State.offersPolls_joined {s u t : State} {l : LinkId} {new more : List PollId} (h : s.offersPolls u l new)
    (hne : new ≠ []) (hjoin : PollsJoin l more u t) : s.offersPolls t l (new ++ more) := by
  obtain ⟨-, hheld, hfree⟩ := h
  rw [State.offersPolls, hjoin.sender, hjoin.link, hjoin.queue]
  refine ⟨fun hnil => absurd (List.append_eq_nil_iff.mp hnil).1 hne, fun _ hask => ?_, fun _ hask p ps hq => ?_⟩
  · obtain ⟨hqueue, hrest⟩ := hheld hne hask
    exact ⟨by rw [hqueue, List.append_assoc], hrest⟩
  · obtain ⟨q, qs, hqs⟩ := List.exists_cons_of_ne_nil (List.append_ne_nil_of_right_ne_nil (s.pollQueue l) hne)
    obtain ⟨rfl, rfl⟩ : q = p ∧ qs ++ more = ps := by
      rw [← List.append_assoc, hqs] at hq
      exact List.cons.inj hq
    obtain ⟨hqueue, hrest⟩ := hfree hne hask q qs hqs
    exact ⟨by rw [hqueue], hrest⟩

/-! ### A list of entries queued (R108) -/

/-- The entries of a list that are queued on a link. -/
def State.newlyQueued (s : State) (l : LinkId) (ps : List PollId) : List PollId :=
  ps.filter fun p => s.pollMayQueue p = some l

theorem State.newlyQueued_cons_some {s : State} {l : LinkId} {p : PollId} (h : s.pollMayQueue p = some l)
    (ps : List PollId) : s.newlyQueued l (p :: ps) = p :: s.newlyQueued l ps := List.filter_cons_of_pos (by simp [h])

theorem State.newlyQueued_cons_other {s : State} {l : LinkId} {p : PollId} (h : s.pollMayQueue p ≠ some l)
    (ps : List PollId) : s.newlyQueued l (p :: ps) = s.newlyQueued l ps := List.filter_cons_of_neg (by simp [h])

theorem State.newlyQueued_congr {s t : State} {ps : List PollId} (h : ∀ p ∈ ps, t.pollMayQueue p = s.pollMayQueue p)
    (l : LinkId) : t.newlyQueued l ps = s.newlyQueued l ps := List.filter_congr fun p hp => by rw [h p hp]

/-- The entries of a list without repetition are judged as they stood before the first of them was queued. -/
theorem State.queuePoll_rest (s : State) {p : PollId} {ps : List PollId} (h : p ∉ ps) :
    ∀ q ∈ ps, (s.queuePoll p).pollMayQueue q = s.pollMayQueue q :=
  fun _ hq => s.queuePoll_pollMayQueue fun hqp => h (hqp ▸ hq)

theorem State.latentFetch_cons (s : State) (p : PollId) (ps : List PollId) :
    s.latentFetch (p :: ps) = (s.queuePoll p).latentFetch ps := rfl

theorem State.latentFetch_pollEntry {ps : List PollId} (hps : ps.Nodup) (s : State) (q : PollId) :
    (s.latentFetch ps).pollEntry q =
      if q ∈ ps ∧ (s.pollMayQueue q).isSome = true then { s.pollEntry q with state := .queued } else s.pollEntry q := by
  induction ps generalizing s with
  | nil => exact (if_neg fun hmem => nomatch hmem.1).symm
  | cons p ps ih =>
    obtain ⟨hp, hps⟩ := List.nodup_cons.mp hps
    rw [State.latentFetch_cons, ih hps]
    by_cases hq : q = p
    · subst hq
      rw [if_neg fun hmem => hp hmem.1, s.queuePoll_pollEntry_self]
      simp only [List.mem_cons, true_or, true_and]
    · rw [s.queuePoll_pollEntry_ne hq, s.queuePoll_pollMayQueue hq]
      simp only [List.mem_cons, hq, false_or]

theorem State.latentFetch_status (s : State) (ps : List PollId) : (s.latentFetch ps).status = s.status := by
  induction ps generalizing s with
  | nil => rfl
  | cons p ps ih => rw [State.latentFetch_cons, ih, s.queuePoll_status]

/-- Where requests only wait, those of a list wait in its order. -/
theorem State.latentFetch_joins {ps : List PollId} (hps : ps.Nodup) {s : State} {l : LinkId} (hwait : s.pollsWait l) :
    PollsJoin l (s.newlyQueued l ps) s (s.latentFetch ps) := by
  induction ps generalizing s with
  | nil => exact ⟨(List.append_nil _).symm, rfl, rfl⟩
  | cons p ps ih =>
    obtain ⟨hp, hps⟩ := List.nodup_cons.mp hps
    have hrest := State.newlyQueued_congr (s.queuePoll_rest hp) l
    rw [State.latentFetch_cons]
    by_cases hl : s.pollMayQueue p = some l
    · have hfirst := State.queuePoll_joins hl hwait
      rw [State.newlyQueued_cons_some hl, ← hrest]
      exact hfirst.trans (ih hps (hfirst.pollsWait hwait))
    · have hfirst := State.queuePoll_otherJoin hl
      rw [State.newlyQueued_cons_other hl, ← hrest]
      exact hfirst.trans (ih hps (hfirst.pollsWait hwait))

/-- The entries of a list offered on a link: the first of them by `queuePoll_offers`, and the others wait behind it. -/
theorem State.latentFetch_offers {ps : List PollId} (hps : ps.Nodup) (s : State) (l : LinkId) :
    s.offersPolls (s.latentFetch ps) l (s.newlyQueued l ps) := by
  induction ps generalizing s with
  | nil => exact State.offersPolls_nil ⟨(List.append_nil _).symm, rfl, rfl⟩
  | cons p ps ih =>
    obtain ⟨hp, hps⟩ := List.nodup_cons.mp hps
    have hrest := State.newlyQueued_congr (s.queuePoll_rest hp) l
    rw [State.latentFetch_cons]
    by_cases hl : s.pollMayQueue p = some l
    · rw [State.newlyQueued_cons_some hl, ← hrest]
      exact State.offersPolls_joined (State.queuePoll_offers hl) (List.cons_ne_nil p [])
        (State.latentFetch_joins hps (State.queuePoll_pollsWait hl))
    · rw [State.newlyQueued_cons_other hl, ← hrest]
      exact State.offersPolls_after (ih hps _) (s.queuePoll_commSide p).loader (State.queuePoll_otherJoin hl)

end Sys2Proof.Machine
end

section
/-! Latent fetch (O38), and the three timers of a poll entry (O39, O40). -/

namespace Sys2Proof.Machine

/-! ### A read taken (R11, R12) -/

/-- A read withholds nothing (Table 1-3). -/
theorem State.captureWithheld_read (s u : State) {t : Transfer} {n : Nat} (h : t.op = .read n) :
    u.captureWithheld t (s.dispositions t) = u := by
  have hnone : firstWithheld (s.dispositions t) = none := by
    rw [firstWithheld, List.findIdx?_eq_none_iff, State.dispositions, h]
    intro d hd
    obtain ⟨r, -, rfl⟩ := List.mem_map.mp hd
    unfold readDisposition
    split <;> rfl
  rw [State.captureWithheld, hnone]

/-- A read presented on a free port: its read-side actions, and one more entry. -/
theorem State.read_taken {s : State} {t : Transfer} {n : Nat} (hop : t.op = .read n) (hnow : s.takesNow = true) :
    s.presentTransfer t =
      (s.readActions (s.refsOf t)).withEntry (newEntry t (s.dispositions t) (s.snapshotOf t) []) := by
  obtain ⟨-, -, -, hstaged, hdelivered⟩ := s.takesNow_iff.mp hnow
  have heffects : s.takeEffects t = (s.readActions (s.refsOf t), []) := by
    rw [State.takeEffects, hop]
  have hpath : (s.readActions (s.refsOf t)).path = s.path :=
    (State.latentFetch_path _ _).trans (s.takeWords_kept _).1
  rw [s.presentTransfer_now t hnow, s.taking_of_delivered t hdelivered, heffects, State.captureWithheld_read s _ hop]
  exact State.commit_of_empty _ ((congrArg Path.staged hpath).trans hstaged)

theorem exec_latentFetch_taken {w : Fin 256} {n : Nat} {id : TransferId} {x : Transfer} {s : State} (hpos : 1 ≤ n)
    (hmax : n ≤ 16) (hnow : s.takesNow = true) (hx : readTransfer s.plan (.echo .active) w.val n id = some x) :
    exec (.latentFetch w n id) s = .next
      ((s.readActions (s.refsOf x)).withEntry (newEntry x (s.dispositions x) (s.snapshotOf x) [])) := by
  have hop : x.op = .read n := by
    obtain ⟨a, -, rfl⟩ := Option.map_eq_some_iff.mp hx
    rfl
  have hcount : beatCountOk n = true := by simp [beatCountOk, hpos, hmax]
  show (if beatCountOk n then Host.Outcome.next (s.request (readTransfer s.plan (.echo .active) w.val n id))
    else .refused Refusal.illFormed) = _
  rw [if_pos hcount, hx]
  exact congrArg Host.Outcome.next (State.read_taken hop hnow)

/-! ### The words a read covers (R108, R164) -/

theorem mem_echoCovered {rs : List WordRef} {p : PollId} :
    p ∈ echoCovered rs ↔ ∃ v, WordRef.echo .active p v ∈ rs := by
  simp only [echoCovered, List.mem_filter, List.mem_finRange, true_and, List.any_eq_true]
  constructor
  · rintro ⟨r, hr, hp⟩
    split at hp
    next q v => exact ⟨v, beq_iff_eq.mp hp ▸ hr⟩
    next => cases hp
  · rintro ⟨v, hv⟩
    exact ⟨_, hv, beq_self_eq_true p⟩

theorem echoCovered_nodup (rs : List WordRef) : (echoCovered rs).Nodup := (List.nodup_finRange 32).filter _

theorem liveCovered_of_echo {rs : List WordRef} (h : ∀ r ∈ rs, ∃ v p k, r = .echo v p k) : liveCovered rs = [] := by
  rw [liveCovered, List.filterMap_eq_nil_iff]
  intro r hr
  obtain ⟨v, p, k, rfl⟩ := h r hr
  rfl

theorem postWord_ne_echo (l : LinkId) (w : Nat) (v : View) (p : PollId) (k : Nat) : postWord l w ≠ .echo v p k := by
  unfold postWord
  dsimp only
  repeat' split
  all_goals exact nofun

/-- A poll entry's record has 8 words (Table 11-13). -/
theorem windowWord_echo_lt {kind : WindowKind} {w : Nat} {v : View} {p : PollId} {k : Nat}
    (h : windowWord kind w = .echo v p k) : k < 8 := by
  cases kind with
  | post l => exact absurd h (postWord_ne_echo l w v p k)
  | gather r =>
    simp only [windowWord] at h
    split at h <;> cases h
  | echo u =>
    simp only [windowWord] at h
    split at h
    · cases h
    · cases h
      exact Nat.mod_lt w (by decide)
  | live u => cases h
  | drive =>
    simp only [windowWord] at h
    split at h
    · cases h
    · split at h <;> cases h

theorem planPageWord_ne_echo (w : Nat) (v : View) (p : PollId) (k : Nat) : planPageWord w ≠ .echo v p k := by
  unfold planPageWord
  repeat' split
  all_goals exact nofun

theorem State.echo_lt_of_mem_refsOf {s : State} {x : Transfer} {v : View} {p : PollId} {k : Nat}
    (h : WordRef.echo v p k ∈ s.refsOf x) : k < 8 := by
  obtain ⟨j, -, hj⟩ := List.mem_map.mp h
  unfold classify at hj
  dsimp only at hj
  split at hj
  · exact absurd hj (planPageWord_ne_echo _ v p k)
  · split at hj
    · cases hj
    · exact windowWord_echo_lt hj

/-- The entries of which a read covers a word, as the claim writes them, however that is decided. -/
theorem State.newlyQueued_echoCovered (s : State) (x : Transfer) (l : LinkId)
    [DecidablePred fun p : PollId =>
      s.pollMayQueue p = some l ∧ ∃ v : Fin 8, WordRef.echo .active p v.val ∈ s.refsOf x] :
    s.newlyQueued l (echoCovered (s.refsOf x)) = (List.finRange 32).filter fun p =>
      s.pollMayQueue p = some l ∧ ∃ v : Fin 8, WordRef.echo .active p v.val ∈ s.refsOf x := by
  have hword (p : PollId) : p ∈ echoCovered (s.refsOf x) ↔ ∃ v : Fin 8, WordRef.echo .active p v.val ∈ s.refsOf x :=
    mem_echoCovered.trans ⟨fun ⟨v, hv⟩ => ⟨⟨v, s.echo_lt_of_mem_refsOf hv⟩, hv⟩, fun ⟨v, hv⟩ => ⟨v.val, hv⟩⟩
  rw [State.newlyQueued, echoCovered, List.filter_filter]
  refine List.filter_congr fun p hp => ?_
  rw [Bool.eq_iff_iff, Bool.and_eq_true, decide_eq_true_iff, decide_eq_true_iff, ← hword]
  exact and_congr_right fun _ => ⟨fun h => List.mem_filter.mpr ⟨hp, h⟩, fun h => (List.mem_filter.mp h).2⟩

/-! ### Latent fetch (R108) -/

theorem State.modLink_mode (s : State) (l m : LinkId) {f : LinkCtl → LinkCtl} (hf : ∀ k, (f k).mode = k.mode) :
    ((s.modLink l f).link m).mode = (s.link m).mode := by
  rw [State.link_modLink]
  split
  · exact hf _
  · rfl

/-- A counter set again leaves the polled values and the modes of the links. -/
theorem TakeCounter.set_polls (k : TakeCounter) (v : Counter) (s : State) :
    (k.set v s).poll = s.poll ∧ ∀ m, ((k.set v s).link m).mode = (s.link m).mode := by
  cases k with
  | link l k =>
    cases k with
    | unrouted | overruns | mergedAsks => exact ⟨rfl, fun _ => rfl⟩
    | _ => exact ⟨rfl, fun m => s.modLink_mode l m fun _ => rfl⟩
  | _ => exact ⟨rfl, fun _ => rfl⟩

theorem State.takeWords_polls (s : State) (ws : List Nat) :
    (s.takeWords ws).poll = s.poll ∧ ∀ m, ((s.takeWords ws).link m).mode = (s.link m).mode := by
  have hfold : ∀ (ks : List TakeCounter) (t : State),
      (ks.foldl (fun t k => t.takeCounter (k.get s) k) t).poll = t.poll
        ∧ ∀ m, ((ks.foldl (fun t k => t.takeCounter (k.get s) k) t).link m).mode = (t.link m).mode := by
    intro ks
    induction ks with
    | nil => exact fun _ => ⟨rfl, fun _ => rfl⟩
    | cons k ks ih =>
      intro t
      obtain ⟨hpoll, hmode⟩ := ih (t.takeCounter (k.get s) k)
      obtain ⟨hpoll', hmode'⟩ := TakeCounter.set_polls k (k.get t - k.get s) t
      exact ⟨hpoll.trans hpoll', fun m => (hmode m).trans (hmode' m)⟩
  exact hfold _ s

theorem State.takeWords_pollEntry (s : State) (ws : List Nat) (p : PollId) :
    (s.takeWords ws).pollEntry p = s.pollEntry p :=
  congrArg (fun u : PollUnit => look u.entries p) (s.takeWords_polls ws).1

theorem State.takeWords_pollMayQueue (s : State) (ws : List Nat) (p : PollId) :
    (s.takeWords ws).pollMayQueue p = s.pollMayQueue p := by
  obtain ⟨-, -, -, -, hloader⟩ := s.takeWords_kept ws
  exact State.pollMayQueue_congr hloader (congrArg PollEntry.state (s.takeWords_pollEntry ws p)) (s.takeWords_polls ws).2

/-- What a read makes of a poll entry: counters taken with it (R165) decide nothing for it. -/
theorem State.readActions_pollEntry (s : State) (rs : List WordRef) (p : PollId) : (s.readActions rs).pollEntry p =
    if p ∈ echoCovered rs ∧ (s.pollMayQueue p).isSome = true then { s.pollEntry p with state := .queued }
    else s.pollEntry p := by
  rw [State.readActions, State.latentFetch_pollEntry (echoCovered_nodup rs), s.takeWords_pollMayQueue,
    s.takeWords_pollEntry]

/-- A read of ECHO words alone takes no counter. -/
theorem State.readActions_of_echo (s : State) {rs : List WordRef} (h : ∀ r ∈ rs, ∃ v p k, r = .echo v p k) :
    s.readActions rs = s.latentFetch (echoCovered rs) := by
  rw [State.readActions, liveCovered_of_echo h, s.takeWords_nil]

theorem CommSide.sameDrive {s t : State} (h : CommSide s t) : sameDrive s t := ⟨h.chans, h.prots, h.guards, h.esl⟩
theorem CommSide.sameReceive {s t : State} (h : CommSide s t) : sameReceive s t := ⟨h.routers, h.ringWriter, h.repeater⟩
theorem CommSide.samePlan {s t : State} (h : CommSide s t) : samePlan s t := ⟨h.loader, h.planSel, h.inReset⟩

/-- Settles O38: each entry by `readActions_pollEntry`, each link by `latentFetch_offers`. -/
theorem latentFetchQueuesCovered : Obligations.LatentFetchQueuesCovered := by
  intro w n id x s hpos hmax hnow hx
  refine ⟨_, exec_latentFetch_taken hpos hmax hnow hx, fun p => ⟨fun hcovered hmay => ?_, fun hnot => ?_⟩, fun hecho => ?_⟩
  · exact (s.readActions_pollEntry _ p).trans (if_pos ⟨mem_echoCovered.mpr hcovered, hmay⟩)
  · refine (s.readActions_pollEntry _ p).trans (if_neg fun ⟨hmem, hmay⟩ => ?_)
    obtain hnone | hnone := hnot
    · obtain ⟨v, hv⟩ := mem_echoCovered.mp hmem
      exact hnone v hv
    · rw [hnone] at hmay
      cases hmay
  · have hside := s.latentFetch_commSide (echoCovered (s.refsOf x))
    rw [s.readActions_of_echo hecho]
    refine ⟨hside.sameDrive, hside.sameReceive, hside.samePlan, s.latentFetch_status _, fun l => ?_⟩
    rw [← s.newlyQueued_echoCovered]
    exact State.latentFetch_offers (echoCovered_nodup _) s l

/-! ### The timers (R110, R113, R115) -/

/-- The auto timer's next period leaves whether the entry may be queued. -/
theorem State.nextAuto_pollMayQueue (s : State) (p : PollId) (interval : Nat) :
    (s.modPoll p fun e => e.nextAuto interval).pollMayQueue p = s.pollMayQueue p :=
  State.pollMayQueue_congr rfl ((congrArg PollEntry.state (s.pollEntry_modPoll_self p _)).trans rfl) fun _ => rfl

theorem exec_autoExpiry {s : State} {p : PollId} (hrun : s.running = true)
    (hdue : due s.now (s.pollEntry p).autoTimer = true) : exec (.autoExpiry p) s = .next (s.autoExpires p) := by
  refine congrArg Host.Outcome.next ((if_pos hdue).trans (s.event_eq _ hrun ?_))
  exact (congrArg Path.staged (State.queuePoll_path _ p)).trans (State.running_staged hrun)

theorem exec_replyTimeout {s : State} {p : PollId} (hrun : s.running = true)
    (hdue : due s.now (s.pollEntry p).replyTimer = true) : exec (.replyTimeout p) s = .next (s.replyExpires p) :=
  congrArg Host.Outcome.next ((if_pos hdue).trans (s.event_eq _ hrun (State.running_staged hrun)))

theorem exec_stalenessExpiry {s : State} {p : PollId} (hrun : s.running = true)
    (hdue : due s.now (s.pollEntry p).staleTimer = true) : exec (.stalenessExpiry p) s = .next (s.staleExpires p) :=
  congrArg Host.Outcome.next ((if_pos hdue).trans (s.event_eq _ hrun (State.running_staged hrun)))

theorem State.autoExpires_pollEntry (s : State) (p : PollId) : (s.autoExpires p).pollEntry p =
    { (s.pollEntry p).nextAuto (s.autoInterval p) with
      state := if (s.pollMayQueue p).isSome then .queued else (s.pollEntry p).state } := by
  rw [State.autoExpires, State.queuePoll_pollEntry_self, s.nextAuto_pollMayQueue, s.pollEntry_modPoll_self]
  split <;> rfl

theorem State.autoExpires_otherEntry (s : State) {p q : PollId} (hne : q ≠ p) :
    (s.autoExpires p).pollEntry q = s.pollEntry q :=
  (State.queuePoll_pollEntry_ne _ hne).trans (look_update_of_ne _ _ hne.symm)

theorem State.autoExpires_offers {s : State} {p : PollId} {l : LinkId} (h : s.pollMayQueue p = some l) :
    s.offersPolls (s.autoExpires p) l [p] ∧ otherLinksSame s (s.autoExpires p) l := by
  have hmay := (s.nextAuto_pollMayQueue p (s.autoInterval p)).trans h
  exact ⟨State.offersPolls_after (State.queuePoll_offers hmay) rfl ⟨(List.append_nil _).symm, rfl, rfl⟩,
    (State.queuePoll_linkSide _ p l hmay).others⟩

theorem State.autoExpires_of_none {s : State} {p : PollId} (h : s.pollMayQueue p = none) :
    s.autoExpires p = s.modPoll p fun e => e.nextAuto (s.autoInterval p) :=
  State.queuePoll_of_none ((s.nextAuto_pollMayQueue p _).trans h)

/-- Settles O39: the auto expiry queues its entry by `autoExpires_offers`; a timer not due is out of place (log 2). -/
theorem pollTimersExpire : Obligations.PollTimersExpire := by
  intro p s hrun
  refine ⟨fun hdue => ⟨_, exec_autoExpiry hrun hdue, ?_⟩, fun hdue => exec_replyTimeout hrun hdue, fun hnot => ?_,
    fun hnot => ?_, fun hnot => ?_⟩
  · have hentry := s.autoExpires_pollEntry p
    have hside := s.autoExpires_commSide p
    refine ⟨congrArg PollEntry.autoTimer hentry, congrArg PollEntry.state hentry,
      (congrArg PollEntry.value hentry).trans rfl, fun q hq => s.autoExpires_otherEntry hq, hside.sameDrive,
      hside.sameReceive, hside.samePlan, State.queuePoll_path _ p, State.queuePoll_status _ p,
      fun l hl => State.autoExpires_offers hl, fun hnone => ?_⟩
    rw [State.autoExpires_of_none hnone]
    exact ⟨⟨rfl, rfl⟩, rfl⟩
  all_goals exact congrArg Host.Outcome.next (if_neg (by rw [hnot]; decide))

/-- Settles O40: `reevaluate_chan` and `reevaluate_prot` from the entry made stale. -/
theorem staleValueStopsUnguarded : Obligations.StaleValueStopsUnguarded := by
  intro p s hrun hdue u
  refine ⟨_, exec_stalenessExpiry hrun hdue, rfl, rfl, rfl, ⟨rfl, rfl⟩, ⟨rfl, rfl, rfl⟩, ⟨rfl, rfl, rfl⟩, fun c =>
    ⟨fun hunmet => ?_, fun hmet => ?_⟩⟩
  · have hstop : (s.staleExpires p).chan c = (s.chan c).stop .interlock (later s.now (s.stopDwell c)) :=
      (u.reevaluate_chan c).trans (if_pos hunmet)
    rw [hstop]
    exact ⟨rfl, rfl, rfl, rfl, rfl, State.reevaluate_caused hunmet⟩
  · have hkeep : ¬ u.unguarded c = true := by rw [hmet]; decide
    exact ⟨(u.reevaluate_chan c).trans (if_neg hkeep), (u.reevaluate_prot c).trans (if_neg hkeep)⟩

end Sys2Proof.Machine
end

section
/-! The drive channels at every step (O54): what a sound channel is, what it takes to keep it so, and the operations that
leave every channel in its state. -/

namespace Sys2Proof.Machine

/-! ### A sound channel (R120, R123, R137, R140, R146) -/

/-- What `Channel.sound` says of a channel, part by part. -/
structure Channel.Agrees (ch : Channel) (k : Protection) : Prop where
  dir : ch.motion.map (·.dir) = ch.state.driven
  duty : ch.state.moving = false → ch.duty = 0
  dwell : ch.dwellEnd.isSome = (ch.state == .stopping)
  timers : ch.state.moving = false → k.stallExpiry = none ∧ k.runExpiry = none ∧ k.holdExpiry = none
  trip : k.trip.isSome = (ch.state == .tripped)

theorem Channel.sound_iff (ch : Channel) (k : Protection) : ch.sound k = true ↔ ch.Agrees k := by
  constructor
  · intro h
    simp only [Channel.sound, Bool.and_eq_true, Bool.or_eq_true, beq_iff_eq, Option.isNone_iff_eq_none] at h
    obtain ⟨⟨⟨⟨hdir, hduty⟩, hdwell⟩, htimers⟩, htrip⟩ := h
    refine ⟨hdir, fun hm => ?_, hdwell, fun hm => ?_, htrip⟩
    · simpa [hm] using hduty
    · simpa [hm, and_assoc] using htimers
  · rintro ⟨hdir, hduty, hdwell, htimers, htrip⟩
    simp only [Channel.sound, Bool.and_eq_true, Bool.or_eq_true, beq_iff_eq, Option.isNone_iff_eq_none]
    refine ⟨⟨⟨⟨hdir, ?_⟩, hdwell⟩, ?_⟩, htrip⟩
    · exact (Bool.eq_false_or_eq_true ch.state.moving).imp_right hduty
    · exact (Bool.eq_false_or_eq_true ch.state.moving).imp_right fun hm => and_assoc.mpr (htimers hm)

theorem ChanState.moving_eq_true {st : ChanState} : st.moving = true ↔ st = .driveOut ∨ st = .driveIn := by
  cases st <;> decide

theorem ChanState.driven_of_not_moving {st : ChanState} (h : st.moving = false) : st.driven = none := by
  simpa [ChanState.moving] using h

/-- A moving channel holds a motion in its direction (R123). -/
theorem Channel.Agrees.motion_of_driven {ch : Channel} {k : Protection} (h : ch.Agrees k) {d : Dir}
    (hd : ch.state.driven = some d) : ∃ m, ch.motion = some m ∧ m.dir = d :=
  Option.map_eq_some_iff.mp (h.dir.trans hd)

/-- A channel that holds a motion moves (R123). -/
theorem Channel.Agrees.moving_of_motion {ch : Channel} {k : Protection} (h : ch.Agrees k) {m : Motion}
    (hm : ch.motion = some m) : ch.state.moving = true := by
  have hdir := h.dir
  rw [hm] at hdir
  rw [ChanState.moving, ← hdir]
  rfl

theorem Channel.Agrees.motion_of_not_moving {ch : Channel} {k : Protection} (h : ch.Agrees k)
    (hm : ch.state.moving = false) : ch.motion = none :=
  Option.map_eq_none_iff.mp (h.dir.trans (ChanState.driven_of_not_moving hm))

theorem Channel.Agrees.trip_of_ne {ch : Channel} {k : Protection} (h : ch.Agrees k) (hne : ch.state ≠ .tripped) :
    k.trip = none := by
  have htrip := h.trip
  rw [beq_eq_false_iff_ne.mpr hne] at htrip
  simpa using htrip

/-- A motion that stops leaves a sound channel, unless it is tripped (R137). -/
theorem Channel.Agrees.stop {ch : Channel} {k : Protection} (h : ch.Agrees k) (hne : ch.state ≠ .tripped)
    (r : StopReason) (e : Stamp) : (ch.stop r e).Agrees k.endMotion :=
  ⟨rfl, fun _ => rfl, rfl, fun _ => ⟨rfl, rfl, rfl⟩, congrArg Option.isSome (h.trip_of_ne hne)⟩

/-- A channel without a trip record at rest in SAFE or READY is sound. -/
theorem Channel.rest_agrees (ch : Channel) {k : Protection} (h : k.trip = none) {st : ChanState}
    (hst : st = .safe ∨ st = .ready) : (ch.rest st).Agrees k.rest := by
  have htrip : k.rest.trip = none := h
  rcases hst with rfl | rfl <;> exact ⟨rfl, fun _ => rfl, rfl, fun _ => ⟨rfl, rfl, rfl⟩, congrArg Option.isSome htrip⟩

/-- The state of a direction is the one driven in it (Table 7-2). -/
theorem driveState_driven (d : Dir) : (driveState d).driven = some d := by cases d <;> rfl

theorem driveState_moving (d : Dir) : (driveState d).moving = true := by cases d <;> rfl

theorem driveState_ne_stopping (d : Dir) : driveState d ≠ .stopping := by cases d <;> exact nofun

theorem driveState_ne_tripped (d : Dir) : driveState d ≠ .tripped := by cases d <;> exact nofun

/-- A channel without a trip record that starts is sound (R129). -/
theorem Channel.start_agrees (ch : Channel) {k : Protection} (h : k.trip = none) (set : DriveSettings) (src : CmdSource)
    (m : Motion) (v : Current) (now : Stamp) : (ch.start src m now).Agrees (k.start set src m v now) where
  dir := (driveState_driven m.dir).symm
  duty hm := absurd ((driveState_moving m.dir).symm.trans hm) nofun
  dwell := (beq_eq_false_iff_ne.mpr (driveState_ne_stopping m.dir)).symm
  timers hm := absurd ((driveState_moving m.dir).symm.trans hm) nofun
  trip := (congrArg Option.isSome h).trans (beq_eq_false_iff_ne.mpr (driveState_ne_tripped m.dir)).symm

/-! ### The invariant, part by part -/

/-- The emergency stop line holds every channel in SAFE or TRIPPED (R148). -/
def State.LineHeld (s : State) : Prop :=
  s.esl = true → ∀ c, (s.chan c).state = .safe ∨ (s.chan c).state = .tripped

/-- The guard results are those of the conditions (R150), and no channel moves against a guard (R151). -/
structure State.GuardsHeld (s : State) : Prop where
  judged : s.guards = s.guardResults
  guarded : ∀ c, s.unguarded c = false

/-- The reset has ended, and every channel's records agree with its state. -/
structure State.Recorded (s : State) : Prop where
  released : s.inReset = false
  records : ∀ c, (s.chan c).Agrees (s.prot c)

/-- The drive channels of a part whose reset has ended are sound. -/
structure State.DriveHeld (s : State) : Prop extends State.Recorded s, State.GuardsHeld s where
  line : s.LineHeld

/-- Every part of `State.driveSound`. -/
theorem State.driveSound_iff (s : State) : s.driveSound = true ↔
    (∀ c, (s.chan c).Agrees (s.prot c)) ∧ s.LineHeld ∧ s.GuardsHeld
      ∧ (s.inReset = true → s.plan = Plan.empty ∧ ∀ c, (s.chan c).state = .safe) := by
  simp only [State.driveSound, ChanState.allowed, Bool.and_eq_true, Bool.or_eq_true, Bool.not_eq_true', beq_iff_eq,
    List.all_eq_true, List.mem_finRange, true_imp_iff, Channel.sound_iff, or_assoc]
  constructor
  · rintro ⟨⟨hchans, hjudged⟩, hplan⟩
    refine ⟨fun c => ?_, fun hesl c => ?_, ⟨hjudged, fun c => ?_⟩, fun hreset => ⟨?_, fun c => ?_⟩⟩
    · obtain ⟨⟨hrecord, -⟩, -⟩ := hchans c
      exact hrecord
    · obtain ⟨⟨-, hline, -⟩, -⟩ := hchans c
      simpa [hesl] using hline
    · obtain ⟨-, hguarded⟩ := hchans c
      exact hguarded
    · simpa [hreset] using hplan
    · obtain ⟨⟨-, -, hsafe⟩, -⟩ := hchans c
      simpa [hreset] using hsafe
  · rintro ⟨hrecords, hline, ⟨hjudged, hguarded⟩, hreset⟩
    refine ⟨⟨fun c => ⟨⟨hrecords c, ?_, ?_⟩, hguarded c⟩, hjudged⟩, ?_⟩
    · exact (Bool.eq_false_or_eq_true s.esl).symm.imp_right fun h => hline h c
    · exact (Bool.eq_false_or_eq_true s.inReset).symm.imp_right fun h => (hreset h).2 c
    · exact (Bool.eq_false_or_eq_true s.inReset).symm.imp_right fun h => (hreset h).1

theorem State.driveHeld_of_sound {s : State} (h : s.driveSound = true) (hreset : s.inReset = false) : s.DriveHeld := by
  obtain ⟨hrecords, hline, hguards, -⟩ := s.driveSound_iff.mp h
  exact ⟨⟨hreset, hrecords⟩, hguards, hline⟩

theorem State.DriveHeld.sound {s : State} (h : s.DriveHeld) : s.driveSound = true :=
  s.driveSound_iff.mpr ⟨h.records, h.line, h.toGuardsHeld, fun hreset => by rw [h.released] at hreset; cases hreset⟩

/-! ### The guards judged afresh -/

theorem State.reevaluate_guarded (s : State) (c : ChanId) : s.reevaluate.unguarded c = false := by
  by_cases h : s.unguarded c = true
  · rw [State.unguarded, s.reevaluate_chan, if_pos h]
    rfl
  · have hdriven : (s.reevaluate.chan c).state.driven = (s.chan c).state.driven := by rw [s.reevaluate_chan, if_neg h]
    rw [s.reevaluate_sameConditions.unguarded hdriven]
    exact (Bool.not_eq_true _).mp h

/-- Judging the guards makes them hold, whatever they were (R152). -/
theorem State.reevaluate_guardsHeld (s : State) : s.reevaluate.GuardsHeld :=
  ⟨s.reevaluate_guards, s.reevaluate_guarded⟩

theorem State.not_tripped_of_unguarded {s : State} {c : ChanId} (h : s.unguarded c = true) :
    (s.chan c).state ≠ .tripped := by
  intro htripped
  obtain ⟨d, hd⟩ := State.driven_of_unguarded h
  rw [htripped] at hd
  cases hd

/-- A judgement keeps the records in agreement. -/
theorem State.Recorded.reevaluate {s : State} (h : s.Recorded) : s.reevaluate.Recorded := by
  refine ⟨h.released, fun c => ?_⟩
  rw [s.reevaluate_chan, s.reevaluate_prot]
  split
  next hu => exact (h.records c).stop (State.not_tripped_of_unguarded hu) _ _
  next => exact h.records c

/-- A channel that does not move is as it was after a judgement. -/
theorem State.reevaluate_chan_of_not_moving {s : State} {c : ChanId} (h : (s.chan c).state.moving = false) :
    s.reevaluate.chan c = s.chan c ∧ s.reevaluate.prot c = s.prot c := by
  have hguarded : ¬ s.unguarded c = true := by
    rw [State.unguarded, ChanState.driven_of_not_moving h]
    exact Bool.false_ne_true
  exact ⟨(s.reevaluate_chan c).trans (if_neg hguarded), (s.reevaluate_prot c).trans (if_neg hguarded)⟩

theorem State.LineHeld.reevaluate {s : State} (h : s.LineHeld) : s.reevaluate.LineHeld := by
  intro hesl c
  have hc := h hesl c
  have hmoving : (s.chan c).state.moving = false := by rcases hc with hc | hc <;> rw [hc] <;> rfl
  obtain ⟨hchan, -⟩ := State.reevaluate_chan_of_not_moving hmoving
  rw [hchan]
  exact hc

/-- Whatever keeps the records and the line, and judges the guards afresh, keeps the drive channels sound. -/
theorem State.Recorded.reevaluate_held {s : State} (h : s.Recorded) (hline : s.LineHeld) : s.reevaluate.DriveHeld :=
  ⟨h.reevaluate, s.reevaluate_guardsHeld, hline.reevaluate⟩

/-- With no guard broken a judgement sets the results and nothing else. -/
theorem State.reevaluate_of_guarded {s : State} (h : ∀ c, s.unguarded c = false) :
    s.reevaluate = { s with guards := s.guardResults } := by
  have hany : (List.finRange 3).any s.unguarded = false := by
    rw [List.any_eq_false]
    exact fun c _ => by simp [h c]
  have hchans : updateAll s.chans (fun c ch =>
      if s.unguarded c then ch.stop .interlock (later s.now (s.stopDwell c)) else ch) = s.chans :=
    look_ext fun c => by rw [look_updateAll, h c]; rfl
  have hprots : updateAll s.prots (fun c k => if s.unguarded c then k.endMotion else k) = s.prots :=
    look_ext fun c => by rw [look_updateAll, h c]; rfl
  rw [State.reevaluate, hany, State.raiseIf_eq, if_neg Bool.false_ne_true, hchans, hprots]

/-! ### Operations that leave every channel in its state -/

/-- What the guards read of a polled value (Table 8-4). -/
def PollEntry.reading (e : PollEntry) : Option (List Byte) × Bool := (e.value, e.stale)

theorem PollEntry.meets_congr {e f : PollEntry} (h : e.reading = f.reading) (byte : Nat) (mask expected : Byte) :
    e.meets byte mask expected = f.meets byte mask expected := by
  have hvalue : e.value = f.value := congrArg Prod.fst h
  have hstale : e.stale = f.stale := congrArg Prod.snd h
  rw [PollEntry.meets, PollEntry.meets, hvalue, hstale]

/-- A channel stays in its state with its end switches as they are, and sound if it was. -/
structure Channel.Steady (ch : Channel) (k : Protection) (ch' : Channel) (k' : Protection) : Prop where
  state : ch'.state = ch.state
  ends : ∀ d, ch'.endActive d = ch.endActive d
  agrees : ch.Agrees k → ch'.Agrees k'

/-- From `s` to `t` the reset, the plan, the guard results and the line are as they were, every condition reads alike, and
every channel is in its state. -/
structure Steady (s t : State) : Prop where
  inReset : t.inReset = s.inReset
  plan : t.plan = s.plan
  guards : t.guards = s.guards
  esl : t.esl = s.esl
  readings : ∀ p, (t.pollEntry p).reading = (s.pollEntry p).reading
  channels : ∀ c, (s.chan c).Steady (s.prot c) (t.chan c) (t.prot c)

theorem Channel.Steady.refl (ch : Channel) (k : Protection) : ch.Steady k ch k := ⟨rfl, fun _ => rfl, id⟩

namespace Steady

/-- The drive channels are as they were. -/
theorem of_same {s t : State} (inReset : t.inReset = s.inReset) (plan : t.plan = s.plan) (hsame : sameDrive s t)
    (readings : ∀ p, (t.pollEntry p).reading = (s.pollEntry p).reading) : Steady s t := by
  obtain ⟨hchans, hprots, hguards, hesl⟩ := hsame
  refine ⟨inReset, plan, hguards, hesl, readings, fun c => ?_⟩
  have hchan : t.chan c = s.chan c := congrArg (look · c) hchans
  have hprot : t.prot c = s.prot c := congrArg (look · c) hprots
  rw [hchan, hprot]
  exact .refl _ _

theorem refl (s : State) : Steady s s := .of_same rfl rfl ⟨rfl, rfl, rfl, rfl⟩ fun _ => rfl

theorem trans {s t u : State} (h : Steady s t) (k : Steady t u) : Steady s u where
  inReset := k.inReset.trans h.inReset
  plan := k.plan.trans h.plan
  guards := k.guards.trans h.guards
  esl := k.esl.trans h.esl
  readings p := (k.readings p).trans (h.readings p)
  channels c :=
    ⟨(k.channels c).state.trans (h.channels c).state, fun d => ((k.channels c).ends d).trans ((h.channels c).ends d),
      fun ha => (k.channels c).agrees ((h.channels c).agrees ha)⟩

/-- The same, the later part first. -/
theorem after {s t u : State} (k : Steady t u) (h : Steady s t) : Steady s u := h.trans k

theorem foldl {α : Type} (f : State → α → State) (h : ∀ s a, Steady s (f s a)) (l : List α) (s : State) :
    Steady s (l.foldl f s) := by
  induction l generalizing s with
  | nil => exact refl s
  | cons a l ih => exact (h s a).trans (ih _)

theorem condMet {s t : State} (h : Steady s t) : t.condMet = s.condMet := by
  funext k
  cases k with
  | atEnd c d => exact (h.channels c).ends d
  | still c => exact congrArg ChanState.still (h.channels c).state
  | value p byte mask expected => exact PollEntry.meets_congr (h.readings p) byte mask expected

theorem unguarded {s t : State} (h : Steady s t) (c : ChanId) : t.unguarded c = s.unguarded c := by
  simp only [State.unguarded, State.guardsMet, State.guardsOf, h.plan, h.condMet, (h.channels c).state]

theorem guardResults {s t : State} (h : Steady s t) : t.guardResults = s.guardResults := by
  rw [State.guardResults, State.guardResults, h.plan, h.condMet]

theorem guardsHeld {s t : State} (h : Steady s t) (hs : s.GuardsHeld) : t.GuardsHeld :=
  ⟨by rw [h.guards, h.guardResults]; exact hs.judged, fun c => by rw [h.unguarded]; exact hs.guarded c⟩

theorem recorded {s t : State} (h : Steady s t) (hs : s.Recorded) : t.Recorded :=
  ⟨h.inReset.trans hs.released, fun c => (h.channels c).agrees (hs.records c)⟩

theorem line {s t : State} (h : Steady s t) (hs : s.LineHeld) : t.LineHeld := by
  intro hesl c
  rw [(h.channels c).state]
  exact hs (h.esl.symm.trans hesl) c

theorem driveHeld {s t : State} (h : Steady s t) (hs : s.DriveHeld) : t.DriveHeld :=
  ⟨h.recorded hs.toRecorded, h.guardsHeld hs.toGuardsHeld, h.line hs.line⟩

/-- Updates of one channel and of its protection that leave it in its state. -/
theorem of_channel {s t : State} (c : ChanId) (f : Channel → Channel) (g : Protection → Protection)
    (inReset : t.inReset = s.inReset) (plan : t.plan = s.plan) (guards : t.guards = s.guards) (esl : t.esl = s.esl)
    (entries : t.poll.entries = s.poll.entries) (chans : t.chans = update s.chans c f)
    (prots : t.prots = update s.prots c g)
    (h : (s.chan c).Steady (s.prot c) (f (s.chan c)) (g (s.prot c))) : Steady s t := by
  refine ⟨inReset, plan, guards, esl, fun p => ?_, fun d => ?_⟩
  · exact congrArg (fun es => (look es p).reading) entries
  · have hchan : t.chan d = look (update s.chans c f) d := congrArg (look · d) chans
    have hprot : t.prot d = look (update s.prots c g) d := congrArg (look · d) prots
    rw [hchan, hprot, look_update, look_update]
    by_cases hd : c = d
    · subst hd
      rw [if_pos rfl, if_pos rfl]
      exact h
    · rw [if_neg hd, if_neg hd]
      exact .refl _ _

end Steady

theorem State.modChan_steady (s : State) (c : ChanId) (f : Channel → Channel)
    (h : (s.chan c).Steady (s.prot c) (f (s.chan c)) (s.prot c)) : Steady s (s.modChan c f) :=
  .of_channel c f id rfl rfl rfl rfl rfl rfl (update_eq_self s.prots c rfl).symm h

theorem State.modProt_steady (s : State) (c : ChanId) (f : Protection → Protection)
    (h : (s.chan c).Steady (s.prot c) (s.chan c) (f (s.prot c))) : Steady s (s.modProt c f) :=
  .of_channel c id f rfl rfl rfl rfl rfl (update_eq_self s.chans c rfl).symm rfl h

end Sys2Proof.Machine
end

section
/-! The drive channels at every step (O54), continued: the links, the polled values and the rings leave every channel in its
state; a drive command, an input, a trip and a plan keep every channel sound. -/

namespace Sys2Proof.Machine

/-! ### Links, polled values and rings -/

theorem CommSide.steady {s t : State} (h : CommSide s t)
    (readings : ∀ p, (t.pollEntry p).reading = (s.pollEntry p).reading) : Steady s t :=
  .of_same h.inReset (congrArg PlanLoader.plan h.loader) h.sameDrive readings

theorem RingOnly.steady {s t : State} (h : RingOnly s t) : Steady s t := by
  obtain ⟨-, _, _, _, _, rfl⟩ := h
  exact .of_same rfl rfl ⟨rfl, rfl, rfl, rfl⟩ fun _ => rfl

theorem RepeaterSide.steady {s t : State} (h : RepeaterSide s t) : Steady s t := by
  obtain ⟨_, _, rfl⟩ := h
  exact .of_same rfl rfl ⟨rfl, rfl, rfl, rfl⟩ fun _ => rfl

section
variable (s : State) (l : LinkId)

theorem State.modLink_steady (f : LinkCtl → LinkCtl) : Steady s (s.modLink l f) :=
  (s.modLink_linkSide l f).toCommSide.steady fun _ => rfl
theorem State.modSender_steady (f : SendCtl → SendCtl) : Steady s (s.modSender l f) :=
  (s.modSender_linkSide l f).toCommSide.steady fun _ => rfl
theorem State.modPath_steady (f : Path → Path) : Steady s (s.modPath f) :=
  .of_same rfl rfl ⟨rfl, rfl, rfl, rfl⟩ fun _ => rfl
theorem State.modStatus_steady (f : StatusUnit → StatusUnit) : Steady s (s.modStatus f) :=
  .of_same rfl rfl ⟨rfl, rfl, rfl, rfl⟩ fun _ => rfl
theorem State.raise_steady (c : Cause) : Steady s (s.raise c) := s.modStatus_steady _
theorem State.raiseIf_steady (b : Bool) (c : Cause) : Steady s (s.raiseIf b c) := s.modStatus_steady _

/-- The counters of a channel are no part of its soundness. -/
theorem TakeCounter.set_steady (k : TakeCounter) (v : Counter) : Steady s (k.set v s) := by
  cases k with
  | link l k => cases k <;> exact .of_same rfl rfl ⟨rfl, rfl, rfl, rfl⟩ fun _ => rfl
  | refused c | alarmsMerged c =>
    exact s.modChan_steady c _ ⟨rfl, fun d => by cases d <;> rfl, fun ⟨a, b, d, e, f⟩ => ⟨a, b, d, e, f⟩⟩
  | warnings c => exact s.modProt_steady c _ ⟨rfl, fun _ => rfl, fun ⟨a, b, d, e, f⟩ => ⟨a, b, d, e, f⟩⟩
  | _ => exact .of_same rfl rfl ⟨rfl, rfl, rfl, rfl⟩ fun _ => rfl

theorem State.bump_steady (k : TakeCounter) : Steady s (s.bump k) := TakeCounter.set_steady s k _

theorem State.submitFetch_steady (i : SlotId) (n : Nat) : Steady s (s.submitFetch l i n) := by
  unfold State.submitFetch
  split
  · exact .refl s
  · exact s.modPath_steady _

/-- A change of an entry that leaves its value and its staleness. -/
theorem State.modPoll_steady (p : PollId) {f : PollEntry → PollEntry} (h : ∀ e, (f e).reading = e.reading) :
    Steady s (s.modPoll p f) := by
  refine .of_same rfl rfl ⟨rfl, rfl, rfl, rfl⟩ fun q => ?_
  rw [State.pollEntry_modPoll]
  split
  · exact h _
  · rfl

theorem State.kick_steady : Steady s (s.kick l) := (s.kick_linkSide l).toCommSide.steady fun _ => rfl
theorem State.pollTake_steady : Steady s (s.pollTake l) := (s.pollTake_linkSide l).toCommSide.steady fun _ => rfl
theorem State.dropAsk_steady (p : PollId) : Steady s (s.dropAsk l p) :=
  (s.dropAsk_linkSide l p).toCommSide.steady fun _ => rfl

theorem State.queuePoll_steady (p : PollId) : Steady s (s.queuePoll p) := by
  unfold State.queuePoll
  split
  · exact .refl s
  · refine (State.pollTake_steady _ _).after
      (Steady.trans (s.modPoll_steady p (f := fun e => { e with state := .queued }) fun _ => rfl) ?_)
    exact .of_same rfl rfl ⟨rfl, rfl, rfl, rfl⟩ fun _ => rfl

theorem State.autoExpires_steady (p : PollId) : Steady s (s.autoExpires p) := by
  refine (State.queuePoll_steady _ p).after (s.modPoll_steady p ?_)
  exact fun _ => rfl

theorem State.replyExpires_steady (p : PollId) : Steady s (s.replyExpires p) := by
  refine (State.raise_steady _ _).after (s.modPoll_steady p ?_)
  exact fun _ => rfl

theorem State.changeSlot_steady (i : SlotId) (f : Slot → Slot) : Steady s (s.changeSlot l i f) :=
  (s.modSender_steady l _).trans (State.raiseIf_steady _ _ _)

/-- An ASK's outcome leaves the value of its entry (R111). -/
theorem PollAsk.entryAfter_reading (a : PollAsk) (n : Nat) (o : Outcome) (x : Stamp) (e : PollEntry) :
    (a.entryAfter n o x e).reading = e.reading := by
  unfold PollAsk.entryAfter
  split
  · rfl
  · split
    · rfl
    · split <;> rfl

theorem State.askOutcome_steady (o : Outcome) : Steady s (s.askOutcome l o) := by
  refine (s.askOutcome_linkSide l o).toCommSide.steady fun p => ?_
  cases hask : (s.sender l).pollAsk with
  | none => rw [State.askOutcome, hask]
  | some a =>
    by_cases hp : p = a.entry
    · subst hp
      rw [State.askOutcome_entry hask, PollAsk.entryAfter_reading]
    · rw [State.askOutcome_otherEntry hask o hp]

theorem State.itemOutcome_steady (r : ItemRef) (o : Outcome) : Steady s (s.itemOutcome l r o) := by
  cases r with
  | slot i => exact s.changeSlot_steady l i _
  | poll => exact s.askOutcome_steady l o

theorem State.endItem_steady (o : Outcome) : Steady s (s.endItem l o) := by
  unfold State.endItem
  split
  · exact .refl s
  · exact (s.modLink_steady l _).trans (State.itemOutcome_steady _ l _ o)

theorem State.abortSends_steady : Steady s (s.abortSends l) := by
  refine (s.abortSends_linkSide l).toCommSide.steady fun p => ?_
  rw [State.abortSends_pollEntry]
  split <;> rfl

theorem State.completeMode_steady (m : Mode) : Steady s (s.completeMode l m) := by
  unfold State.completeMode
  dsimp only
  refine .after (State.kick_steady _ l) ?_
  split
  · exact (State.abortSends_steady _ l).after
      ((State.raise_steady _ _).after (.of_same rfl rfl ⟨rfl, rfl, rfl, rfl⟩ fun _ => rfl))
  · exact (State.raise_steady _ _).after (.of_same rfl rfl ⟨rfl, rfl, rfl, rfl⟩ fun _ => rfl)

theorem State.requestMode_steady (m : Mode) : Steady s (s.requestMode l m) := by
  unfold State.requestMode
  split
  · exact s.modLink_steady l _
  · exact s.completeMode_steady l m

theorem State.completePending_steady : Steady s (s.completePending l) := by
  unfold State.completePending
  split
  · exact .refl s
  · exact s.completeMode_steady l _

theorem State.rescore_steady (f : BitVec 8 → BitVec 8) : Steady s (s.rescore l f) :=
  (s.modLink_steady l _).trans (State.raiseIf_steady _ _ _)

theorem State.quietGap_steady : Steady s (s.quietGap l) := (s.modLink_steady l _).trans (State.kick_steady _ l)

theorem State.recover_steady : Steady s (s.recover l) :=
  ((s.modLink_steady l _).trans (State.raise_steady _ _)).trans (State.kick_steady _ l)

/-- The end of an item of a link that has moved on, and the mode that waits for it. -/
theorem State.endMessage_steady (f : LinkCtl → LinkCtl) (o : Outcome) :
    Steady s (((s.modLink l f).endItem l o).completePending l) :=
  ((s.modLink_steady l f).trans (State.endItem_steady _ l o)).trans (State.completePending_steady _ l)

theorem State.messageSent_steady : Steady s (s.messageSent l) :=
  ((s.bump_steady _).trans (State.rescore_steady _ l _)).trans (State.endMessage_steady _ l _ _)

theorem State.countError_steady (k : LinkCounter) (b : Bool) : Steady s (s.countError l k b) :=
  (s.bump_steady _).trans (State.rescore_steady _ l _)

theorem State.endAtError_steady (b : Bool) : Steady s (s.endAtError l b) := by
  unfold State.endAtError
  split
  · exact s.modLink_steady l _
  · exact s.endMessage_steady l _ _

theorem State.countedError_steady (k : LinkCounter) (b d : Bool) : Steady s ((s.countError l k b).endAtError l d) :=
  (s.countError_steady l k b).trans (State.endAtError_steady _ l d)

theorem State.wake_steady : Steady s (s.wake l) := (s.modLink_steady l _).trans (State.raise_steady _ _)

theorem State.fetchCompleted_steady (i : SlotId) (n : Nat) (code : DownCode) (ws : List Word) :
    Steady s (s.fetchCompleted l i n code ws) := by
  unfold State.fetchCompleted
  split
  · exact (s.changeSlot_steady l i _).trans (State.kick_steady _ l)
  · exact .refl s

theorem State.consumeAsk_steady (t : Tag) : Steady s (s.consumeAsk l t) := by
  unfold State.consumeAsk
  split
  · exact (s.modSender_steady l _).trans (State.submitFetch_steady _ l _ _)
  · exact s.bump_steady _

theorem State.slotRequest_steady (ts : List Touch) (i : SlotId) (w : Word) : Steady s (s.slotRequest ts l i w).1 := by
  have hfetch (p : SlotPurpose) : Steady s (s.requestFetch l i p) :=
    (s.modSender_steady l _).trans (State.raiseIf_steady _ _ _)
  unfold State.slotRequest
  split
  · exact hfetch _
  · split
    · unfold State.answerRequest
      split
      · exact s.modSender_steady l _
      · exact hfetch _
    · exact (s.modSender_steady l _).trans (State.raiseIf_steady _ _ _)

theorem State.countReceived_steady (m : Message) : Steady s (s.countReceived l m) :=
  (s.bump_steady _).trans (State.modLink_steady _ l _)

end

theorem State.writerTake_steady (s : State) : Steady s s.writerTake := s.writerTake_ringOnly.steady

theorem State.writerDone_steady (s : State) : Steady s s.writerDone :=
  .after (State.writerTake_steady _) (.of_same rfl rfl ⟨rfl, rfl, rfl, rfl⟩ fun _ => rfl)

theorem State.writerAbandon_steady (s : State) (h : Handoff) : Steady s (s.writerAbandon h) :=
  .after (State.writerDone_steady _) (.of_same rfl rfl ⟨rfl, rfl, rfl, rfl⟩ fun _ => rfl)

theorem State.bodyWritten_steady (s : State) (code : DownCode) : Steady s (s.bodyWritten code) := by
  unfold State.bodyWritten
  split
  · exact .refl s
  · cases code with
    | okay =>
      exact (State.submitEntry_ringOnly _ _ _ _ _).steady.after (.of_same rfl rfl ⟨rfl, rfl, rfl, rfl⟩ fun _ => rfl)
    | other => exact s.writerAbandon_steady _

theorem State.markerWritten_steady (s : State) (code : DownCode) : Steady s (s.markerWritten code) := by
  unfold State.markerWritten
  split
  · exact .refl s
  · cases code with
    | okay =>
      exact (State.writerDone_steady _).after
        ((State.raise_steady _ _).after (.of_same rfl rfl ⟨rfl, rfl, rfl, rfl⟩ fun _ => rfl))
    | other => exact s.writerAbandon_steady _

theorem State.rangeRead_steady (s : State) (g k : Nat) (code : DownCode) (ws : List Word) :
    Steady s (s.rangeRead g k code ws) := by
  have hsame (f : Repeater → Repeater) : Steady s (s.modRepeater f) := (s.modRepeater_repeaterSide f).steady
  unfold State.rangeRead
  split
  · split
    · exact hsame _
    · exact .refl s
  all_goals exact .refl s

theorem State.periodExpires_steady (s : State) : Steady s s.periodExpires := by
  unfold State.periodExpires
  dsimp only
  split
  · exact .refl s
  · exact ((s.modRepeater_repeaterSide _).trans (State.beginCycle_repeaterSide _)).steady
  · exact .of_same rfl rfl ⟨rfl, rfl, rfl, rfl⟩ fun _ => rfl

theorem State.frameEnds_steady (s : State) : Steady s s.frameEnds := by
  unfold State.frameEnds
  dsimp only
  split
  · exact (RepeaterSide.trans ⟨_, _, rfl⟩ (State.frameDue_repeaterSide _)).steady
  · split
    · exact (RepeaterSide.trans ⟨_, _, rfl⟩ (State.beginCycle_repeaterSide _)).steady
    · exact .of_same rfl rfl ⟨rfl, rfl, rfl, rfl⟩ fun _ => rfl

end Sys2Proof.Machine
end

section
/-! The drive channels at every step (O54), continued: a drive command, an input, a trip and a plan coming into force keep
every channel sound. -/

namespace Sys2Proof.Machine

/-- An operation keeps the drive channels sound. -/
def KeepsDrive (s t : State) : Prop := s.DriveHeld → t.DriveHeld

namespace KeepsDrive

theorem refl (s : State) : KeepsDrive s s := id

theorem trans {s t u : State} (h : KeepsDrive s t) (k : KeepsDrive t u) : KeepsDrive s u := k ∘ h

/-- The same, the later part first. -/
theorem after {s t u : State} (k : KeepsDrive t u) (h : KeepsDrive s t) : KeepsDrive s u := h.trans k

end KeepsDrive

theorem Steady.keepsDrive {s t : State} (h : Steady s t) : KeepsDrive s t := h.driveHeld

/-! ### One channel changed -/

theorem State.chan_of_update {s t : State} {c : ChanId} {f : Channel → Channel} (hchans : t.chans = update s.chans c f)
    (d : ChanId) : t.chan d = if c = d then f (s.chan d) else s.chan d :=
  (congrArg (look · d) hchans).trans (look_update _ _ _ _)

theorem State.prot_of_update {s t : State} {c : ChanId} {g : Protection → Protection}
    (hprots : t.prots = update s.prots c g) (d : ChanId) : t.prot d = if c = d then g (s.prot d) else s.prot d :=
  (congrArg (look · d) hprots).trans (look_update _ _ _ _)

/-- The line holds one changed channel as it holds the others. -/
theorem State.LineHeld.of_update {s t : State} (h : s.LineHeld) (c : ChanId) (f : Channel → Channel)
    (hesl : t.esl = s.esl) (hchans : t.chans = update s.chans c f)
    (hc : s.esl = true → (f (s.chan c)).state = .safe ∨ (f (s.chan c)).state = .tripped) : t.LineHeld := by
  intro ht d
  rw [State.chan_of_update hchans]
  by_cases hd : c = d
  · subst hd
    rw [if_pos rfl]
    exact hc (hesl.symm.trans ht)
  · rw [if_neg hd]
    exact h (hesl.symm.trans ht) d

/-- The records of one changed channel agree, and those of the others did. -/
theorem State.Recorded.of_update {s t : State} (h : s.Recorded) (c : ChanId) (f : Channel → Channel)
    (g : Protection → Protection) (hreset : t.inReset = s.inReset) (hchans : t.chans = update s.chans c f)
    (hprots : t.prots = update s.prots c g) (hc : (f (s.chan c)).Agrees (g (s.prot c))) : t.Recorded := by
  refine ⟨hreset.trans h.released, fun d => ?_⟩
  rw [State.chan_of_update hchans, State.prot_of_update hprots]
  by_cases hd : c = d
  · subst hd
    rw [if_pos rfl, if_pos rfl]
    exact hc
  · rw [if_neg hd, if_neg hd]
    exact h.records d

/-! ### Stops, rests and starts (R128 to R132, R137) -/

theorem State.LineHeld.esl_of_moving {s : State} (h : s.LineHeld) {c : ChanId} (hm : (s.chan c).state.moving = true) :
    s.esl = false := by
  refine (Bool.not_eq_true _).mp fun hesl => ?_
  rcases h hesl c with hc | hc <;> rw [hc] at hm <;> cases hm

/-- A stop ends a motion soundly, and judges the guards (R137). -/
theorem State.stopMotion_held_of_moving {s : State} {c : ChanId} (hrec : s.Recorded) (hline : s.LineHeld)
    (hm : (s.chan c).state.moving = true) (r : StopReason) : (s.stopMotion c r).DriveHeld := by
  have hne : (s.chan c).state ≠ .tripped := by intro h; rw [h] at hm; cases hm
  rw [State.stopMotion, if_pos hm]
  refine State.Recorded.reevaluate_held ((State.raiseIf_steady _ _ _).recorded ?_) ((State.raiseIf_steady _ _ _).line ?_)
  · exact hrec.of_update c (·.stop r (later s.now (s.stopDwell c))) Protection.endMotion rfl rfl rfl
      ((hrec.records c).stop hne _ _)
  · refine hline.of_update c (·.stop r (later s.now (s.stopDwell c))) rfl rfl fun hesl => ?_
    rw [hline.esl_of_moving hm] at hesl
    cases hesl

theorem State.stopMotion_of_not_moving {s : State} {c : ChanId} (hm : ¬ (s.chan c).state.moving = true) (r : StopReason) :
    s.stopMotion c r = s := if_neg hm

theorem State.stopMotion_keepsDrive (s : State) (c : ChanId) (r : StopReason) : KeepsDrive s (s.stopMotion c r) := by
  intro h
  by_cases hm : (s.chan c).state.moving = true
  · exact State.stopMotion_held_of_moving h.toRecorded h.line hm r
  · rw [State.stopMotion_of_not_moving hm]
    exact h

theorem State.stopIf_keepsDrive (s : State) (c : ChanId) (r : Option StopReason) : KeepsDrive s (s.stopIf c r) := by
  cases r with
  | none => exact .refl s
  | some r => exact s.stopMotion_keepsDrive c r

/-- Whatever it stops, a stop keeps the records and the line. -/
theorem State.stopIf_recorded {s : State} (hrec : s.Recorded) (hline : s.LineHeld) (c : ChanId) (r : Option StopReason) :
    (s.stopIf c r).Recorded ∧ (s.stopIf c r).LineHeld := by
  cases r with
  | none => exact ⟨hrec, hline⟩
  | some r =>
    show (s.stopMotion c r).Recorded ∧ (s.stopMotion c r).LineHeld
    by_cases hm : (s.chan c).state.moving = true
    · have hheld := State.stopMotion_held_of_moving hrec hline hm r
      exact ⟨hheld.toRecorded, hheld.line⟩
    · rw [State.stopMotion_of_not_moving hm]
      exact ⟨hrec, hline⟩

/-- A channel without a trip record goes to SAFE, or to READY with the line deasserted. -/
theorem State.toRest_held {s : State} (h : s.DriveHeld) {c : ChanId} (htrip : (s.prot c).trip = none) {st : ChanState}
    (hst : st = .safe ∨ st = .ready ∧ s.esl = false) : (s.toRest c st).DriveHeld := by
  refine State.Recorded.reevaluate_held ?_ ?_
  · exact h.toRecorded.of_update c (·.rest st) Protection.rest rfl rfl rfl
      (Channel.rest_agrees _ htrip (hst.imp_right And.left))
  · refine h.line.of_update c (·.rest st) rfl rfl fun hesl => ?_
    obtain rfl | ⟨-, hreleased⟩ := hst
    · exact .inl rfl
    · rw [hreleased] at hesl
      cases hesl

/-- A channel without a trip record starts with the line deasserted (R129). -/
theorem State.startMotion_held {s : State} (h : s.DriveHeld) {c : ChanId} (htrip : (s.prot c).trip = none)
    (hesl : s.esl = false) (src : CmdSource) (k : MotionCode) (dir : Dir) (d : DriveCommand) :
    (s.startMotion c src k dir d).DriveHeld := by
  unfold State.startMotion
  split
  · exact h
  next set _ =>
    let m := newMotion set k dir d s.now
    refine State.Recorded.reevaluate_held ?_ ?_
    · exact h.toRecorded.of_update c (·.start src m s.now) (·.start set src m (s.chan c).current s.now) rfl rfl rfl
        (Channel.start_agrees _ htrip _ _ _ _ _)
    · refine h.line.of_update c (·.start src m s.now) rfl rfl fun hasserted => ?_
      rw [hesl] at hasserted
      cases hasserted

theorem Channel.refresh_eq {ch : Channel} {m : Motion} (hm : ch.motion = some m) (d : DriveCommand) (now : Stamp) :
    ch.refresh d now = { ch with motion := some (m.refresh d), duty := (m.refresh d).dutyAt now } := by
  rw [Channel.refresh, hm]

/-- A refresh leaves the channel in its state, with a motion in its direction (R130). -/
theorem State.refreshMotion_steady {s : State} {c : ChanId} (hmoving : (s.chan c).state.moving = true) (src : CmdSource)
    (d : DriveCommand) : Steady s (s.refreshMotion c src d) := by
  refine .of_channel c (·.refresh d s.now) (·.hold src (later s.now (s.holdTime c))) rfl rfl rfl rfl rfl rfl rfl ?_
  have htimers : (s.chan c).state.moving = false → (s.prot c).stallExpiry = none ∧ (s.prot c).runExpiry = none
      ∧ ((s.prot c).hold src (later s.now (s.holdTime c))).holdExpiry = none :=
    fun h => absurd (hmoving.symm.trans h) nofun
  cases hm : (s.chan c).motion with
  | none =>
    rw [Channel.refresh, hm]
    exact ⟨rfl, fun _ => rfl, fun h => ⟨h.dir, h.duty, h.dwell, htimers, h.trip⟩⟩
  | some m =>
    rw [Channel.refresh_eq hm]
    refine ⟨rfl, fun w => by cases w <;> rfl, fun h => ⟨?_, fun hno => ?_, h.dwell, htimers, h.trip⟩⟩
    · exact (congrArg (Option.map (·.dir)) hm).symm.trans h.dir
    · exact absurd (hmoving.symm.trans hno) nofun

/-! ### Accepted commands (R127 to R132, R149, R156) -/

/-- The code leaves a channel READY or moving. -/
def CmdCode.readies (k : CmdCode) : Bool := k == .enable || k.motion.isSome

/-- The line and the trip record of the channel let the code take its effect. -/
structure State.Permits (s : State) (c : ChanId) (k : CmdCode) : Prop where
  esl : k.readies = true → s.esl = false
  untripped : k.readies = true ∨ k = .disable → (s.chan c).state ≠ .tripped

theorem State.watchOffByMotion_steady (s : State) (c : ChanId) : Steady s (s.watchOffByMotion c) :=
  s.modProt_steady c _ ⟨rfl, fun _ => rfl, fun h => ⟨h.dir, h.duty, h.dwell, h.timers, h.trip⟩⟩

theorem State.atTarget_keepsDrive (s : State) (c : ChanId) : KeepsDrive s (s.atTarget c) := by
  unfold State.atTarget
  split
  · exact s.stopMotion_keepsDrive c _
  · exact (s.modChan_steady c _
      ⟨rfl, fun d => by cases d <;> rfl, fun h => ⟨h.dir, h.duty, h.dwell, h.timers, h.trip⟩⟩).keepsDrive

theorem State.applyMotion_held {s : State} (h : s.DriveHeld) {c : ChanId} (hne : (s.chan c).state ≠ .tripped)
    (hesl : s.esl = false) (src : CmdSource) (k : MotionCode) (d : DriveCommand) : (s.applyMotion c src k d).DriveHeld := by
  have hwatch := s.watchOffByMotion_steady c
  have hheld := hwatch.driveHeld h
  unfold State.applyMotion
  dsimp only
  split
  · exact State.atTarget_keepsDrive _ c hheld
  · split
    next hm => exact (State.refreshMotion_steady (s := s.watchOffByMotion c) hm src d).driveHeld hheld
    next => exact State.startMotion_held hheld ((hheld.records c).trip_of_ne hne) hesl src k _ d

/-- An accepted command keeps the drive channels sound. -/
theorem State.applyCommand_held {s : State} (h : s.DriveHeld) {c : ChanId} {d : DriveCommand}
    (hpermits : ∀ k, cmdOf d.code = some k → s.Permits c k) (src : CmdSource) : (s.applyCommand c src d).DriveHeld := by
  unfold State.applyCommand
  cases hcode : cmdOf d.code with
  | none => exact h
  | some k =>
    have hk := hpermits k hcode
    have htrip (hr : k.readies = true ∨ k = .disable) : (s.prot c).trip = none := (h.records c).trip_of_ne (hk.untripped hr)
    cases k with
    | enable => exact State.toRest_held h (htrip (.inl rfl)) (.inr ⟨rfl, hk.esl rfl⟩)
    | disable =>
      have hsteady := s.modChan_steady c
        (fun ch => { ch with stopReason := if ch.state.moving then .disabled else ch.stopReason })
        ⟨rfl, fun d => by cases d <;> rfl, fun h => ⟨h.dir, h.duty, h.dwell, h.timers, h.trip⟩⟩
      exact State.toRest_held (hsteady.driveHeld h) (htrip (.inr rfl)) (.inl rfl)
    | moveOut | moveIn | goto => exact State.applyMotion_held h (hk.untripped (.inl rfl)) (hk.esl rfl) src _ d
    | stop => exact s.stopMotion_keepsDrive c _ h
    | clearTrip =>
      refine State.Recorded.reevaluate_held ?_ ?_
      · exact h.toRecorded.of_update c (·.rest .safe) (fun k => Protection.rest { k with trip := none }) rfl rfl
          (update_update _ _ _ _) (Channel.rest_agrees _ rfl (.inl rfl))
      · exact h.line.of_update c (·.rest .safe) rfl rfl fun _ => .inl rfl
    | watchOn | watchOff =>
      exact (s.modProt_steady c _
        ⟨rfl, fun _ => rfl, fun h => ⟨h.dir, h.duty, h.dwell, h.timers, h.trip⟩⟩).driveHeld h

/-! ### The checks (Table 7-6) -/

/-- A known code that passes its checks is accepted in its channel's state, and ENABLE and CLEAR_TRIP with the line
deasserted. -/
theorem State.accepted_of_checkKnown {s : State} {c : ChanId} {src : CmdSource} {k : CmdCode} {d : DriveCommand}
    (h : s.checkKnown c src k d = none) :
    k.acceptedIn (s.chan c).state = true ∧ (k = .enable ∨ k = .clearTrip → s.esl = false) := by
  unfold State.checkKnown at h
  cases hmotion : k.motion with
  | none =>
    rw [hmotion] at h
    dsimp only [State.checkOther] at h
    split at h
    · cases h
    next haccepted =>
      split at h
      · cases h
      next hesl =>
        simp only [Bool.or_eq_true, Bool.not_eq_true', Bool.and_eq_true, not_or, Bool.not_eq_false] at haccepted
        obtain ⟨haccepted, -⟩ := haccepted
        refine ⟨haccepted, fun hk => ?_⟩
        rcases hk with rfl | rfl <;> simpa using hesl
  | some m =>
    rw [hmotion] at h
    obtain ⟨-, hstart⟩ := Option.or_eq_none_iff.mp h
    split at hstart
    next haccepted => exact ⟨haccepted, fun hk => by rcases hk with rfl | rfl <;> cases hmotion⟩
    next => cases hstart

/-- A command that no check refuses has passed those of its code. -/
theorem State.checkKnown_of_judge {s : State} {c : ChanId} {src : CmdSource} {d : DriveCommand} {k : CmdCode}
    (h : s.judge c src d = none) (hk : cmdOf d.code = some k) : s.checkKnown c src k d = none := by
  obtain ⟨-, hknown⟩ := Option.or_eq_none_iff.mp h
  rw [hk] at hknown
  exact hknown

/-- What the checks accept, the line and the trip record permit. -/
theorem State.permits_of_judge {s : State} (hline : s.LineHeld) {c : ChanId} {src : CmdSource} {d : DriveCommand}
    (h : s.judge c src d = none) {k : CmdCode} (hk : cmdOf d.code = some k) : s.Permits c k := by
  obtain ⟨haccepted, hesl⟩ := State.accepted_of_checkKnown (State.checkKnown_of_judge h hk)
  have hmotion (hm : (s.chan c).state = .ready ∨ (s.chan c).state.moving = true) :
      s.esl = false ∧ (s.chan c).state ≠ .tripped := by
    refine ⟨(Bool.not_eq_true _).mp fun hasserted => ?_, fun htripped => ?_⟩
    · rcases hline hasserted c with hc | hc <;> rw [hc] at hm <;> rcases hm with hm | hm <;> cases hm
    · rw [htripped] at hm
      rcases hm with hm | hm <;> cases hm
  cases k with
  | enable =>
    have hsafe : (s.chan c).state = .safe := beq_iff_eq.mp haccepted
    exact ⟨fun _ => hesl (.inl rfl), fun _ => by rw [hsafe]; exact nofun⟩
  | disable => exact ⟨nofun, fun _ => bne_iff_ne.mp haccepted⟩
  | moveOut | moveIn | goto =>
    obtain ⟨hreleased, hne⟩ := hmotion (by simpa [CmdCode.acceptedIn] using haccepted)
    exact ⟨fun _ => hreleased, fun _ => hne⟩
  | stop | clearTrip | watchOn | watchOff => exact ⟨nofun, fun h => by rcases h with h | h <;> cases h⟩

theorem State.refuse_steady (s : State) (c : ChanId) (src : CmdSource) (r : RefuseReason) (b : Byte) :
    Steady s (s.refuse c src r b) :=
  s.modChan_steady c _ ⟨rfl, fun d => by cases d <;> rfl, fun h => ⟨h.dir, h.duty, h.dwell, h.timers, h.trip⟩⟩

theorem State.command_keepsDrive (s : State) (c : ChanId) (src : CmdSource) (d : DriveCommand) :
    KeepsDrive s (s.command c src d) := by
  unfold State.command
  split
  · exact (s.refuse_steady c src _ _).keepsDrive
  next hjudge => exact fun h => State.applyCommand_held h (fun k hk => State.permits_of_judge h.line hjudge hk) src

theorem State.deckCommand_keepsDrive (s : State) (c : ChanId) (l : LinkId) (m : Message) :
    KeepsDrive s (s.deckCommand c l m) := by
  unfold State.deckCommand
  split
  · exact (s.refuse_steady c _ _ _).keepsDrive
  · exact s.command_keepsDrive c _ _

/-! ### Trips (R145, R146, R148) -/

theorem State.alarmRequest_steady (s : State) (c : ChanId) : Steady s (s.alarmRequest c) := by
  unfold State.alarmRequest
  split
  · exact .refl s
  · split
    · exact (s.modSender_steady _ _).trans (State.submitFetch_steady _ _ _ _)
    · exact s.bump_steady _

theorem State.trippedBy_chan (s : State) (c d : ChanId) (cause : TripCause) : (s.trippedBy c cause).chan d =
    if c = d then { s.chan d with state := .tripped, motion := none, duty := 0, dwellEnd := none, stopReason := .trip }
    else s.chan d := look_update _ _ _ _

theorem State.trippedBy_prot (s : State) (c d : ChanId) (cause : TripCause) : (s.trippedBy c cause).prot d =
    if c = d then { (s.prot d).rest with trip := some (s.tripOf c cause) } else s.prot d := look_update _ _ _ _

theorem State.trippedBy_recorded {s : State} (h : s.Recorded) (c : ChanId) (cause : TripCause) :
    (s.trippedBy c cause).Recorded := by
  refine ⟨h.released, fun d => ?_⟩
  rw [s.trippedBy_chan, s.trippedBy_prot]
  split
  · exact ⟨rfl, fun _ => rfl, rfl, fun _ => ⟨rfl, rfl, rfl⟩, rfl⟩
  · exact h.records d

theorem State.takeTrip_recorded {s : State} (h : s.Recorded) (c : ChanId) (cause : TripCause) :
    (s.takeTrip c cause).Recorded := by
  rw [State.takeTrip_eq]
  exact ((State.alarmRequest_steady _ c).recorded (State.trippedBy_recorded h c cause)).reevaluate

theorem State.takeTrip_guardsHeld (s : State) (c : ChanId) (cause : TripCause) : (s.takeTrip c cause).GuardsHeld := by
  rw [State.takeTrip_eq]
  exact State.reevaluate_guardsHeld _

/-- A trip on a channel that is TRIPPED is counted in its record (R146). -/
theorem State.countTrip_steady (s : State) (c : ChanId) :
    Steady s (s.modProt c fun k => { k with trip := k.trip.map TripRecord.again }) :=
  s.modProt_steady c _ ⟨rfl, fun _ => rfl, fun h => ⟨h.dir, h.duty, h.dwell, h.timers, by
    rw [← h.trip]
    exact Option.isSome_map⟩⟩

/-- What a trip event does, by the channel's state (R145, R146). -/
theorem State.trip_cases (s : State) (c : ChanId) (cause : TripCause) :
    s.trip c cause = s.takeTrip c cause
      ∨ Steady s (s.trip c cause) ∧ ((s.chan c).state = .safe ∨ (s.chan c).state = .tripped) := by
  unfold State.trip
  cases hstate : (s.chan c).state with
  | safe => exact .inr ⟨.refl s, .inl rfl⟩
  | tripped => exact .inr ⟨s.countTrip_steady c, .inr rfl⟩
  | ready | driveOut | driveIn | stopping => exact .inl rfl

theorem State.trip_recorded {s : State} (h : s.Recorded) (c : ChanId) (cause : TripCause) : (s.trip c cause).Recorded := by
  obtain htrip | ⟨hsteady, -⟩ := s.trip_cases c cause
  · rw [htrip]
    exact State.takeTrip_recorded h c cause
  · exact hsteady.recorded h

theorem State.trip_guardsHeld {s : State} (h : s.GuardsHeld) (c : ChanId) (cause : TripCause) :
    (s.trip c cause).GuardsHeld := by
  obtain htrip | ⟨hsteady, -⟩ := s.trip_cases c cause
  · rw [htrip]
    exact s.takeTrip_guardsHeld c cause
  · exact hsteady.guardsHeld h

/-- The state of a channel in SAFE or TRIPPED. -/
def State.Halted (s : State) (c : ChanId) : Prop := (s.chan c).state = .safe ∨ (s.chan c).state = .tripped

/-- A channel that a trip reaches is in SAFE or TRIPPED afterwards, and so is every other that was. -/
theorem State.trip_halted {s : State} {c d : ChanId} (cause : TripCause) (h : c = d ∨ s.Halted d) :
    (s.trip c cause).Halted d := by
  obtain htrip | ⟨hsteady, hc⟩ := s.trip_cases c cause
  · have hstate : (((s.trippedBy c cause).alarmRequest c).chan d).state = ((s.trippedBy c cause).chan d).state :=
      ((State.alarmRequest_steady _ c).channels d).state
    have hd : ((s.trippedBy c cause).alarmRequest c).Halted d := by
      rw [State.Halted, hstate, s.trippedBy_chan]
      split
      next => exact .inr rfl
      next hne => exact h.resolve_left hne
    have hmoving : (((s.trippedBy c cause).alarmRequest c).chan d).state.moving = false := by
      rcases hd with hd | hd <;> rw [hd] <;> rfl
    obtain ⟨hchan, -⟩ := State.reevaluate_chan_of_not_moving hmoving
    rw [htrip, State.takeTrip_eq, State.Halted, hchan]
    exact hd
  · rw [State.Halted, (hsteady.channels d).state]
    obtain rfl | h := h
    · exact hc
    · exact h

theorem State.trip_keepsDrive (s : State) (c : ChanId) (cause : TripCause) : KeepsDrive s (s.trip c cause) := by
  refine fun h => ⟨State.trip_recorded h.toRecorded c cause, State.trip_guardsHeld h.toGuardsHeld c cause,
    fun hesl d => State.trip_halted cause (.inr (h.line ?_ d))⟩
  rw [← hesl]
  obtain htrip | ⟨hsteady, -⟩ := s.trip_cases c cause
  · rw [htrip, State.takeTrip_eq]
    exact (State.alarmRequest_steady (s.trippedBy c cause) c).esl.symm
  · exact hsteady.esl.symm

/-- Trips of a list of channels: the records and the guards hold, and every channel reached is in SAFE or TRIPPED. -/
theorem State.trips_held (cause : TripCause) (cs : List ChanId) {s : State} (hrec : s.Recorded) (hguards : s.GuardsHeld) :
    (cs.foldl (fun t c => t.trip c cause) s).Recorded ∧ (cs.foldl (fun t c => t.trip c cause) s).GuardsHeld
      ∧ ∀ d, d ∈ cs ∨ s.Halted d → (cs.foldl (fun t c => t.trip c cause) s).Halted d := by
  induction cs generalizing s with
  | nil => exact ⟨hrec, hguards, fun d hd => hd.resolve_left List.not_mem_nil⟩
  | cons c cs ih =>
    obtain ⟨hrec', hguards', hhalted⟩ := ih (State.trip_recorded hrec c cause) (State.trip_guardsHeld hguards c cause)
    refine ⟨hrec', hguards', fun d hd => hhalted d ?_⟩
    obtain hd | hd := hd
    · obtain rfl | hd := List.mem_cons.mp hd
      · exact .inr (State.trip_halted cause (.inl rfl))
      · exact .inl hd
    · exact .inr (State.trip_halted cause (.inr hd))

theorem mem_chanOrder (n : Fin 6) (c : ChanId) : c ∈ chanOrder n := by revert n c; decide

/-- One assertion of the line reaches every channel (R148). -/
theorem State.eslAsserts_keepsDrive (s : State) : KeepsDrive s s.eslAsserts := by
  intro h
  have hasserted : State.Recorded { s with esl := true } := ⟨h.released, h.records⟩
  obtain ⟨hrec, hguards, hhalted⟩ := State.trips_held .esl (chanOrder (Config.eslOrder s.freeCount)) hasserted
    ⟨h.judged, h.guarded⟩
  exact ⟨⟨hrec.released, hrec.records⟩, ⟨hguards.judged, hguards.guarded⟩,
    fun _ c => hhalted c (.inl (mem_chanOrder _ c))⟩

theorem State.eslRelease_keepsDrive (s : State) : KeepsDrive s { s with esl := false } :=
  fun h => ⟨⟨h.released, h.records⟩, ⟨h.judged, h.guarded⟩, nofun⟩

/-! ### Inputs and time (R133 to R143, R157) -/

theorem State.warn_steady (s : State) (c : ChanId) : Steady s (s.warn c) := by
  refine (State.raise_steady _ _).after ((State.bump_steady _ _).after (s.modProt_steady c _ ?_))
  exact ⟨rfl, fun _ => rfl, fun h => ⟨h.dir, h.duty, h.dwell, h.timers, h.trip⟩⟩

theorem State.overcurrent_keepsDrive (s : State) (c : ChanId) : KeepsDrive s (s.overcurrent c) := by
  unfold State.overcurrent
  split
  · exact .refl s
  · split
    · exact (s.warn_steady c).keepsDrive
    · exact s.trip_keepsDrive c _

theorem State.watchPulse_steady (s : State) (c : ChanId) : Steady s (s.watchPulse c) := by
  have hprot (t : State) (f : Protection → Protection)
      (h : ∀ k, (f k).stallExpiry = k.stallExpiry ∧ (f k).runExpiry = k.runExpiry ∧ (f k).holdExpiry = k.holdExpiry
        ∧ (f k).trip = k.trip) : Steady t (t.modProt c f) := by
    obtain ⟨hstall, hrun, hhold, htrip⟩ := h (t.prot c)
    refine t.modProt_steady c f ⟨rfl, fun _ => rfl, fun h => ⟨h.dir, h.duty, h.dwell, fun hm => ?_, ?_⟩⟩
    · rw [hstall, hrun, hhold]
      exact h.timers hm
    · rw [htrip]
      exact h.trip
  have hcreeps := hprot s Protection.creeps fun _ => ⟨rfl, rfl, rfl, rfl⟩
  unfold State.watchPulse
  split
  · dsimp only
    split
    · have halarmed := hprot (s.modProt c Protection.creeps) (fun k => { k with watch := .alarmed })
        fun _ => ⟨rfl, rfl, rfl, rfl⟩
      exact ((hcreeps.trans halarmed).trans (State.raise_steady _ _)).trans (State.alarmRequest_steady _ c)
    · exact hcreeps
  · exact .refl s

/-- The state in which a pulse has been counted (R134) and a stall measurement that runs has started again (R143). -/
def State.counted (s : State) (c : ChanId) : State :=
  { s with
    chans := update s.chans c fun ch => { ch with position := countPulse (s.counting c) ch.position }
    prots := update s.prots c fun k => k.pulsed (later s.now (s.stallTime c)) }

theorem State.pulse_eq (s : State) (c : ChanId) : s.pulse c =
    if (s.chan c).state.moving then (s.counted c).stopIf c ((s.counted c).arrival c)
    else if (s.chan c).state = .stopping then s.counted c else (s.counted c).watchPulse c := rfl

theorem State.counted_steady (s : State) (c : ChanId) : Steady s (s.counted c) := by
  refine .of_channel c (fun ch => { ch with position := countPulse (s.counting c) ch.position })
    (·.pulsed (later s.now (s.stallTime c))) rfl rfl rfl rfl rfl rfl rfl ⟨rfl, fun d => by cases d <;> rfl, fun h => ?_⟩
  refine ⟨h.dir, h.duty, h.dwell, fun hm => ?_, h.trip⟩
  obtain ⟨hstall, hrun, hhold⟩ := h.timers hm
  exact ⟨congrArg (Option.map _) hstall, hrun, hhold⟩

theorem State.pulse_keepsDrive (s : State) (c : ChanId) : KeepsDrive s (s.pulse c) := by
  rw [State.pulse_eq]
  refine (s.counted_steady c).keepsDrive.trans ?_
  split
  · exact State.stopIf_keepsDrive _ c _
  · split
    · exact .refl _
    · exact (State.watchPulse_steady _ c).keepsDrive

/-- The state in which the level of an end switch has been read, and the position re-referenced (R135). -/
def State.switchRead (s : State) (c : ChanId) (which : Dir) (active : Bool) : State :=
  s.modChan c fun ch =>
    { ch.setEnd which active with position := if which == .inward && active then s.reference c else ch.position }

/-- What the change of an end switch ends a motion with (R135, R136). -/
def State.switchReason (s : State) (c : ChanId) (which : Dir) (active : Bool) : Option StopReason :=
  if active && (s.chan c).state.driven == some which then some .end_
  else if which == .inward && active then (s.switchRead c which active).arrival c
  else none

theorem State.endSwitch_eq (s : State) (c : ChanId) (which : Dir) (active : Bool) : s.endSwitch c which active =
    ((s.switchRead c which active).stopIf c (s.switchReason c which active)).reevaluate := rfl

theorem State.switchRead_chan (s : State) (c d : ChanId) (which : Dir) (active : Bool) :
    (s.switchRead c which active).chan d =
      if c = d then
        { (s.chan d).setEnd which active with
          position := if which == .inward && active then s.reference c else (s.chan d).position }
      else s.chan d := look_update _ _ _ _

theorem Channel.setEnd_state (ch : Channel) (which : Dir) (active : Bool) : (ch.setEnd which active).state = ch.state := by
  cases which <;> rfl

theorem State.switchRead_state (s : State) (c d : ChanId) (which : Dir) (active : Bool) :
    ((s.switchRead c which active).chan d).state = (s.chan d).state := by
  rw [s.switchRead_chan]
  split
  · exact Channel.setEnd_state _ _ _
  · rfl

/-- A level read leaves the records in agreement, but the guards may read it. -/
theorem State.switchRead_recorded {s : State} (h : s.Recorded) (c : ChanId) (which : Dir) (active : Bool) :
    (s.switchRead c which active).Recorded := by
  refine ⟨h.released, fun d => ?_⟩
  show ((s.switchRead c which active).chan d).Agrees (s.prot d)
  obtain ⟨hdir, hduty, hdwell, htimers, htrip⟩ := h.records d
  rw [s.switchRead_chan]
  split
  · cases which <;> exact ⟨hdir, hduty, hdwell, htimers, htrip⟩
  · exact ⟨hdir, hduty, hdwell, htimers, htrip⟩

theorem State.endSwitch_keepsDrive (s : State) (c : ChanId) (which : Dir) (active : Bool) :
    KeepsDrive s (s.endSwitch c which active) := by
  intro h
  have hline : (s.switchRead c which active).LineHeld := by
    intro hesl d
    rw [s.switchRead_state]
    exact h.line hesl d
  obtain ⟨hrec, hheld⟩ := State.stopIf_recorded (State.switchRead_recorded h.toRecorded c which active) hline c
    (s.switchReason c which active)
  exact hrec.reevaluate_held hheld

theorem State.convert_steady (s : State) (c : ChanId) (v : Current) : Steady s (s.convert c v) := by
  refine .of_channel c (fun ch => { ch with current := v })
    (fun k => if (s.chan c).state.measured then k.convert v (s.aboveThreshold c v) s.now else k)
    rfl rfl rfl rfl rfl rfl rfl ⟨rfl, fun d => by cases d <;> rfl, fun h => ?_⟩
  split <;> exact ⟨h.dir, h.duty, h.dwell, h.timers, h.trip⟩

theorem State.rampEnds_keepsDrive (s : State) (c : ChanId) : KeepsDrive s (s.rampEnds c) := by
  intro h
  unfold State.rampEnds
  split
  · exact h
  next m hm =>
    have hmoving := (h.records c).moving_of_motion hm
    refine Steady.driveHeld (s := s) (.of_channel c (fun ch => { ch with duty := m.speed })
      (fun k => { k with stallExpiry := some (later m.rampEnd (s.stallTime c)) })
      rfl rfl rfl rfl rfl rfl rfl ⟨rfl, fun d => by cases d <;> rfl, fun h => ?_⟩) h
    exact ⟨h.dir, fun hno => absurd (hmoving.symm.trans hno) nofun, h.dwell,
      fun hno => absurd (hmoving.symm.trans hno) nofun, h.trip⟩

/-- The stop dwell of a STOPPING channel ends in READY; with the line asserted there is no such channel (R138, R148). -/
theorem State.dwellExpires_keepsDrive {s : State} {c : ChanId} (hdue : s.dwellDue c = true) :
    KeepsDrive s (s.toRest c .ready) := by
  intro h
  have hstopping : (s.chan c).state = .stopping := beq_iff_eq.mp (Bool.and_eq_true_iff.mp hdue).1
  refine State.toRest_held h ((h.records c).trip_of_ne (by rw [hstopping]; exact nofun)) (.inr ⟨rfl, ?_⟩)
  refine (Bool.not_eq_true _).mp fun hesl => ?_
  rcases h.line hesl c with hc | hc <;> rw [hstopping] at hc <;> cases hc

/-- The duty of a motion follows the stamp, and nothing else does (R133). -/
theorem Channel.atStamp_steady (ch : Channel) (k : Protection) (now : Stamp) : ch.Steady k (ch.atStamp now) k := by
  cases hm : ch.motion with
  | none =>
    rw [Channel.atStamp, hm]
    exact .refl ch k
  | some m =>
    rw [Channel.atStamp_motion now hm]
    refine ⟨rfl, fun d => by cases d <;> rfl, fun h => ⟨h.dir, fun hno => ?_, h.dwell, h.timers, h.trip⟩⟩
    exact absurd ((h.moving_of_motion hm).symm.trans hno) nofun

theorem State.tick_steady (s : State) : Steady s s.tick := by
  refine ⟨rfl, rfl, rfl, rfl, fun _ => rfl, fun c => ?_⟩
  rw [s.tick_chan]
  exact Channel.atStamp_steady _ _ _

/-! ### Polled values and plans (R43, R112, R115) -/

/-- A changed entry, with the guards judged afresh. -/
theorem State.modPoll_reevaluate_keepsDrive (s : State) (p : PollId) (f : PollEntry → PollEntry) :
    KeepsDrive s (s.modPoll p f).reevaluate :=
  fun h => State.Recorded.reevaluate_held (s := s.modPoll p f) ⟨h.released, h.records⟩ h.line

theorem State.storeValue_keepsDrive (s : State) (p : PollId) (m : Message) (t : Stamp) :
    KeepsDrive s (s.storeValue p m t) := s.modPoll_reevaluate_keepsDrive p _

theorem State.storeReply_keepsDrive (s : State) (l : LinkId) (p : PollId) (m : Message) (t : Stamp) :
    KeepsDrive s (s.storeReply l p m t) := by
  unfold State.storeReply
  split
  · exact ((s.dropAsk_steady l p).keepsDrive.trans (State.storeValue_keepsDrive _ p m t)).trans
      (State.pollTake_steady _ l).keepsDrive
  · exact s.storeValue_keepsDrive p m t

theorem State.restedChannels_recorded {s : State} (h : s.Recorded) : s.restedChannels.Recorded := by
  refine ⟨h.released, fun c => ?_⟩
  rw [s.restedChannels_chan, s.restedChannels_prot]
  split
  next hset =>
    obtain ⟨hready, -⟩ := (s.withoutSettings_iff c).mp hset
    exact Channel.rest_agrees _ ((h.records c).trip_of_ne (by rw [hready]; exact nofun)) (.inl rfl)
  next => exact h.records c

theorem State.restedChannels_line {s : State} (h : s.LineHeld) : s.restedChannels.LineHeld := by
  intro hesl c
  rw [s.restedChannels_chan]
  split
  · exact .inl rfl
  · exact h hesl c

/-- A plan that comes into force keeps the drive channels sound: its guards are judged (R43, R152). -/
theorem State.forcePlan_keepsDrive (s : State) (q : Plan) : KeepsDrive s (s.forcePlan q) := by
  intro h
  have hrec : (s.planPolled q).Recorded := by
    refine ⟨(s.planPolled_commSide q).inReset.trans h.released, fun c => ?_⟩
    rw [s.planPolled_chan, s.planPolled_prot]
    exact h.records c
  have hline : (s.planPolled q).LineHeld := by
    intro hesl c
    rw [s.planPolled_chan]
    exact h.line ((s.planPolled_esl q).symm.trans hesl) c
  have hheld : (s.planPolled q).replanChannels.DriveHeld :=
    (State.restedChannels_recorded hrec).reevaluate_held (State.restedChannels_line hline)
  obtain ⟨r, p, hafter⟩ := s.forcePlan_after q
  rw [hafter]
  refine (State.raise_steady _ _).driveHeld (Steady.driveHeld ?_ hheld)
  exact .of_same rfl rfl ⟨rfl, rfl, rfl, rfl⟩ fun _ => rfl

end Sys2Proof.Machine
end

section
/-! The drive channels at every step (O54), continued: routing, the memory path, and every command. -/

namespace Sys2Proof.Machine

/-! ### Routing (R87 to R93) -/

theorem State.sift_keepsDrive (s : State) (l : LinkId) (m : Message) (t : Stamp) : KeepsDrive s (s.sift l m t) :=
  (s.sift_ringOnly l m t).steady.keepsDrive

theorem State.hear_keepsDrive (s : State) (l : LinkId) (m : Message) (t : Stamp) : KeepsDrive s (s.hear l m t) := by
  unfold State.hear
  split
  · exact .refl s
  · exact s.storeValue_keepsDrive _ m t

theorem State.routeGood_keepsDrive (s : State) (l : LinkId) (m : Message) (t : Stamp) :
    KeepsDrive s (s.routeGood l m t) := by
  unfold State.routeGood
  cases m.kind with
  | reply =>
    dsimp only
    split
    · exact s.storeReply_keepsDrive l _ m t
    · exact s.sift_keepsDrive l m t
  | ask =>
    dsimp only
    split
    · exact (s.consumeAsk_steady l _).keepsDrive
    · exact s.sift_keepsDrive l m t
  | data =>
    dsimp only
    split
    · exact s.deckCommand_keepsDrive _ l m
    · exact (s.hear_keepsDrive l m t).trans (State.sift_keepsDrive _ l m t)

theorem State.messageReceived_keepsDrive (s : State) (l : LinkId) : KeepsDrive s (s.messageReceived l) :=
  (((s.countReceived_steady l _).trans (State.rescore_steady _ l _)).trans (State.modLink_steady _ l _)).keepsDrive.trans
    (State.routeGood_keepsDrive _ l _ _)

theorem State.checkError_steady (s : State) (l : LinkId) : Steady s (s.checkError l) :=
  ((s.countError_steady l .check false).trans (State.routeDamaged_ringOnly _ l _ _).steady).trans
    (State.endAtError_steady _ l true)

theorem State.mirroredEnds_keepsDrive (s : State) (l : LinkId) (m : Message) : KeepsDrive s (s.mirroredEnds l m) :=
  (((((s.modLink_steady l _).trans (State.endItem_steady _ l _)).trans (State.bump_steady _ _)).trans
    (State.countReceived_steady _ l m)).keepsDrive.trans (State.routeGood_keepsDrive _ l m _)).trans
    (State.completePending_steady _ l).keepsDrive

/-! ### The Plan Loader (R27 to R31) -/

/-- A change of the Plan Loader that leaves the plan in force. -/
theorem State.modLoader_steady (s : State) {f : PlanLoader → PlanLoader} (h : (f s.loader).plan = s.loader.plan) :
    Steady s (s.modLoader f) := .of_same rfl h ⟨rfl, rfl, rfl, rfl⟩ fun _ => rfl

theorem State.submitPlanRead_steady (s : State) (serial i : Nat) : Steady s (s.submitPlanRead serial i) :=
  .of_same rfl rfl ⟨rfl, rfl, rfl, rfl⟩ fun _ => rfl

theorem State.planNoticed_steady (s : State) (serial : Nat) : Steady s (s.planNoticed serial) := by
  unfold State.planNoticed
  split
  · exact .refl s
  next l _ =>
    split
    · exact ((s.modLoader_steady (f := fun p => { p with load := some l.begin }) rfl).trans
        (State.submitPlanRead_steady _ _ _)).trans (State.submitPlanRead_steady _ _ _)
    · exact .refl s

theorem State.refusePlan_steady (s : State) (f : PlanFault) : Steady s (s.refusePlan f) := by
  refine .after (State.raise_steady _ _) (s.modLoader_steady ?_)
  rfl

theorem State.endLoad_keepsDrive (s : State) (l : Load) : KeepsDrive s (s.endLoad l) := by
  unfold State.endLoad
  split
  · exact (s.refusePlan_steady _).keepsDrive
  · exact s.forcePlan_keepsDrive _

theorem State.planReadStored_keepsDrive (s : State) (l : Load) (i : Nat) (ws : List Word) :
    KeepsDrive s (s.planReadStored l i ws) := by
  have hstored : Steady s (s.modLoader fun p => { p with load := some (l.store i ws) }) := s.modLoader_steady rfl
  unfold State.planReadStored
  dsimp only
  split
  · exact (hstored.trans (State.submitPlanRead_steady _ _ _)).keepsDrive
  · split
    · exact hstored.keepsDrive.trans (State.endLoad_keepsDrive _ _)
    · exact hstored.keepsDrive

theorem State.planRead_keepsDrive (s : State) (serial i : Nat) (code : DownCode) (ws : List Word) :
    KeepsDrive s (s.planRead serial i code ws) := by
  unfold State.planRead
  split
  · exact .refl s
  · cases code with
    | okay => exact s.planReadStored_keepsDrive _ i ws
    | other => exact (s.refusePlan_steady _).keepsDrive

/-! ### The effects of a transfer (R9, R10, R12) -/

theorem State.deliver_steady (s : State) (n : Notice) : Steady s (s.deliver n) := by
  cases n with
  | plan serial => exact s.planNoticed_steady serial
  | fetch l i f =>
    show Steady s (s.fetchNoticed l i f)
    unfold State.fetchNoticed
    split
    · exact s.submitFetch_steady l i f
    · exact .refl s
  | release r e => exact .of_same rfl rfl ⟨rfl, rfl, rfl, rfl⟩ fun _ => rfl

theorem State.takeCounter_steady (s : State) (v : Counter) (k : TakeCounter) : Steady s (s.takeCounter v k) :=
  TakeCounter.set_steady s k _

theorem State.takeWords_steady (s : State) (ws : List Nat) : Steady s (s.takeWords ws) := by
  unfold State.takeWords
  exact (Steady.foldl _ (fun t k => t.takeCounter_steady (k.get s) k) _ s).trans (State.modStatus_steady _ _)

theorem State.readActions_steady (s : State) (rs : List WordRef) : Steady s (s.readActions rs) :=
  (s.takeWords_steady _).trans (Steady.foldl _ State.queuePoll_steady _ _)

/-- The line is as it was, and no channel has become TRIPPED. -/
structure Untripped (s t : State) : Prop where
  esl : t.esl = s.esl
  tripped : ∀ c, (t.chan c).state = .tripped → (s.chan c).state = .tripped

namespace Untripped

theorem refl (s : State) : Untripped s s := ⟨rfl, fun _ => id⟩

theorem trans {s t u : State} (h : Untripped s t) (k : Untripped t u) : Untripped s u :=
  ⟨k.esl.trans h.esl, fun c hc => h.tripped c (k.tripped c hc)⟩

/-- The same, the later part first. -/
theorem after {s t u : State} (k : Untripped t u) (h : Untripped s t) : Untripped s u := h.trans k

/-- One channel changed into a state other than TRIPPED. -/
theorem of_update {s t : State} (c : ChanId) (f : Channel → Channel) (hesl : t.esl = s.esl)
    (hchans : t.chans = update s.chans c f) (h : (f (s.chan c)).state ≠ .tripped) : Untripped s t := by
  refine ⟨hesl, fun d hd => ?_⟩
  rw [State.chan_of_update hchans] at hd
  by_cases hcd : c = d
  · subst hcd
    rw [if_pos rfl] at hd
    exact absurd hd h
  · rw [if_neg hcd] at hd
    exact hd

end Untripped

theorem Steady.untripped {s t : State} (h : Steady s t) : Untripped s t :=
  ⟨h.esl, fun c hc => (h.channels c).state.symm.trans hc⟩

theorem State.reevaluate_untripped (s : State) : Untripped s s.reevaluate := by
  refine ⟨rfl, fun c hc => ?_⟩
  rw [s.reevaluate_chan] at hc
  split at hc
  · cases hc
  · exact hc

theorem State.stopMotion_untripped (s : State) (c : ChanId) (r : StopReason) : Untripped s (s.stopMotion c r) := by
  unfold State.stopMotion
  split
  · refine (State.reevaluate_untripped _).after ((State.raiseIf_steady _ _ _).untripped.after ?_)
    exact .of_update c (·.stop r (later s.now (s.stopDwell c))) rfl rfl nofun
  · exact .refl s

theorem State.toRest_untripped (s : State) (c : ChanId) {st : ChanState} (hst : st ≠ .tripped) :
    Untripped s (s.toRest c st) :=
  (State.reevaluate_untripped _).after (.of_update c (·.rest st) rfl rfl hst)

theorem State.applyMotion_untripped (s : State) (c : ChanId) (src : CmdSource) (k : MotionCode) (d : DriveCommand) :
    Untripped s (s.applyMotion c src k d) := by
  have hwatch := (s.watchOffByMotion_steady c).untripped
  unfold State.applyMotion
  dsimp only
  split
  · refine hwatch.trans ?_
    unfold State.atTarget
    split
    · exact State.stopMotion_untripped _ c _
    next hm =>
      refine (State.modChan_steady _ c _ ⟨rfl, fun d => by cases d <;> rfl, fun h => ?_⟩).untripped
      exact ⟨h.dir, h.duty, h.dwell, h.timers, h.trip⟩
  · split
    next hm => exact hwatch.trans (State.refreshMotion_steady (s := s.watchOffByMotion c) hm src d).untripped
    next =>
      refine hwatch.trans ?_
      unfold State.startMotion
      split
      · exact .refl _
      next set _ =>
        exact (State.reevaluate_untripped _).after
          (.of_update c (·.start src (newMotion set k _ d s.now) s.now) rfl rfl (driveState_ne_tripped _))

/-- No command trips a channel. -/
theorem State.applyCommand_untripped (s : State) (c : ChanId) (src : CmdSource) (d : DriveCommand) :
    Untripped s (s.applyCommand c src d) := by
  unfold State.applyCommand
  cases cmdOf d.code with
  | none => exact .refl s
  | some k =>
    cases k with
    | enable => exact s.toRest_untripped c (st := .ready) nofun
    | disable =>
      refine (State.toRest_untripped _ c (st := .safe) nofun).after (s.modChan_steady c _ ?_).untripped
      exact ⟨rfl, fun d => by cases d <;> rfl, fun h => ⟨h.dir, h.duty, h.dwell, h.timers, h.trip⟩⟩
    | moveOut | moveIn | goto => exact s.applyMotion_untripped c src _ d
    | stop => exact s.stopMotion_untripped c _
    | clearTrip => exact (State.toRest_untripped _ c (st := .safe) nofun).after ⟨rfl, fun _ => id⟩
    | watchOn | watchOff => exact ⟨rfl, fun _ => id⟩

/-- A command that was judged before other effects of its transfer is still permitted (R9, R124). -/
theorem State.Permits.of_untripped {j s : State} {c : ChanId} {k : CmdCode} (h : j.Permits c k) (hs : Untripped j s) :
    s.Permits c k :=
  ⟨fun hk => hs.esl.trans (h.esl hk), fun hk htripped => h.untripped hk (hs.tripped c htripped)⟩

/-- The drive channels within the effects of one transfer, all judged on the state `j` before it. -/
structure State.Effected (j s : State) : Prop where
  held : s.DriveHeld
  untripped : Untripped j s

theorem State.Effected.steady {j s t : State} (h : j.Effected s) (hs : Steady s t) : j.Effected t :=
  ⟨hs.driveHeld h.held, h.untripped.trans hs.untripped⟩

theorem State.Effected.blockEffect {j s : State} (h : j.Effected s) (hj : j.LineHeld) (ts : List Touch) (c : ChanId) :
    j.Effected (s.blockEffect j ts c) := by
  unfold State.blockEffect
  split
  · exact h.steady (s.refuse_steady c _ _ _)
  next d _ =>
    split
    · exact h.steady (s.refuse_steady c _ _ _)
    next hjudge =>
      refine ⟨State.applyCommand_held h.held (fun k hk => ?_) .zone,
        h.untripped.trans (s.applyCommand_untripped c .zone d)⟩
      exact (State.permits_of_judge hj hjudge hk).of_untripped h.untripped

theorem State.triggerEffect_steady (s : State) (ts : List Touch) (r : WordRef) (w : Word) :
    Steady s (s.triggerEffect ts r w).1 := by
  cases r with
  | planSequence => exact s.modLoader_steady (f := fun p => p.trigger w) rfl
  | mode l =>
    simp only [State.triggerEffect]
    split
    · exact .refl s
    · exact s.requestMode_steady l _
  | abortAll l => exact s.abortSends_steady l
  | request l i => exact s.slotRequest_steady l ts i w
  | _ => exact .refl s

theorem State.Effected.beatEffect {j : State} {acc : State × List Notice} (h : j.Effected acc.1) (hj : j.LineHeld)
    (ts : List Touch) (x : Touch) : j.Effected (j.beatEffect ts acc x).1 := by
  unfold State.beatEffect
  split
  · split
    · exact h.blockEffect hj ts _
    · exact h
  · split
    · exact h.steady (acc.1.triggerEffect_steady ts _ _)
    · exact h

theorem State.Effected.beatEffects {j : State} {acc : State × List Notice} (h : j.Effected acc.1) (hj : j.LineHeld)
    (ts xs : List Touch) : j.Effected (xs.foldl (j.beatEffect ts) acc).1 := by
  induction xs generalizing acc with
  | nil => exact h
  | cons x xs ih => exact ih (h.beatEffect hj ts x)

theorem State.takeEffects_keepsDrive (s : State) (t : Transfer) : KeepsDrive s (s.takeEffects t).1 := by
  intro h
  unfold State.takeEffects
  split
  · exact (s.readActions_steady _).driveHeld h
  · have hbefore : s.Effected s := ⟨h, .refl s⟩
    exact (hbefore.beatEffects (acc := (s, [])) h.line _ _).held

theorem State.captureWithheld_steady (s : State) (t : Transfer) (ds : List Disposition) :
    Steady s (s.captureWithheld t ds) := by
  unfold State.captureWithheld
  split
  · exact .refl s
  · exact ((s.bump_steady _).trans (State.modStatus_steady _ _)).trans (State.raise_steady _ _)

/-! ### The memory path (R1, R3, R10, R14) -/

theorem State.settle_steady (s : State) : Steady s s.settle :=
  (s.modPath_steady _).trans (Steady.foldl _ State.deliver_steady _ _)

theorem State.taking_keepsDrive (s : State) (t : Transfer) : KeepsDrive s (s.taking t) :=
  (s.takeEffects_keepsDrive t).trans
    (((State.captureWithheld_steady _ t _).trans (State.modPath_steady _ _)).trans (State.settle_steady _)).keepsDrive

theorem State.takeNext_keepsDrive (s : State) : KeepsDrive s s.takeNext := by
  unfold State.takeNext
  split
  · exact .refl s
  · split
    · exact (s.modPath_steady _).keepsDrive.trans (State.taking_keepsDrive _ _)
    · exact .refl s

theorem State.takeUpTo_keepsDrive (n : Nat) (s : State) : KeepsDrive s (State.takeUpTo n s) := by
  induction n generalizing s with
  | zero => exact .refl s
  | succ n ih => exact s.takeNext_keepsDrive.trans (ih _)

theorem State.commit_steady (s : State) : Steady s s.commit := s.modPath_steady _

theorem State.pieceAnswered_steady (s : State) (i k : Nat) (code : DownCode) (data : List Word) :
    Steady s (s.pieceAnswered i k code data) := by
  unfold State.pieceAnswered
  split
  · exact (s.modPath_steady _).trans (State.settle_steady _)
  · exact .refl s

theorem State.responseLeaves_keepsDrive (s : State) : KeepsDrive s s.responseLeaves := by
  unfold State.responseLeaves
  split
  · exact .refl s
  · exact (s.modPath_steady _).keepsDrive.trans (State.takeNext_keepsDrive _)

/-! ### Completions of internal transfers (R19, R20) -/

theorem State.complete_steady (s : State) (nth : Nat) (code : DownCode) : Steady s (s.complete nth code) := by
  cases code <;> exact .of_same rfl rfl ⟨rfl, rfl, rfl, rfl⟩ fun _ => rfl

theorem State.planReadCompletes_keepsDrive (s : State) (nth : Nat) (code : DownCode) (data : List Word) :
    KeepsDrive s (s.planReadCompletes nth code data) := by
  unfold State.planReadCompletes
  split
  · exact (s.complete_steady nth code).keepsDrive.trans (State.planRead_keepsDrive _ _ _ _ _)
  · exact .refl s

theorem State.slotFetchCompletes_steady (s : State) (nth : Nat) (code : DownCode) (data : List Word) :
    Steady s (s.slotFetchCompletes nth code data) := by
  unfold State.slotFetchCompletes
  split
  · exact (s.complete_steady nth code).trans (State.fetchCompleted_steady _ _ _ _ _ _)
  · exact .refl s

theorem State.bodyWriteCompletes_steady (s : State) (nth : Nat) (code : DownCode) :
    Steady s (s.bodyWriteCompletes nth code) := by
  unfold State.bodyWriteCompletes
  split
  · exact (s.complete_steady nth code).trans (State.bodyWritten_steady _ _)
  · exact .refl s

theorem State.markerWriteCompletes_steady (s : State) (nth : Nat) (code : DownCode) :
    Steady s (s.markerWriteCompletes nth code) := by
  unfold State.markerWriteCompletes
  split
  · exact (s.complete_steady nth code).trans (State.markerWritten_steady _ _)
  · exact .refl s

theorem State.repeaterReadCompletes_steady (s : State) (nth : Nat) (code : DownCode) (data : List Word) :
    Steady s (s.repeaterReadCompletes nth code data) := by
  unfold State.repeaterReadCompletes
  split
  · exact (s.complete_steady nth code).trans (State.rangeRead_steady _ _ _ _ _)
  · exact .refl s

/-! ### Every command -/

/-- From one sound state to another. -/
def KeepsSound (s t : State) : Prop := s.driveSound = true → t.driveSound = true

/-- The next state of an outcome, if it has one, has sound drive channels. -/
def EndsDriven (s : State) (o : Host.Outcome State Fault Refusal) : Prop :=
  match o with
  | .next t => KeepsSound s t
  | .fault _ | .refused _ => True

theorem EndsDriven.ite {c : Prop} [Decidable c] {s t : State} {r : Refusal} (h : KeepsSound s t) :
    EndsDriven s (if c then .next t else .refused r) := by
  split
  · exact h
  · trivial

/-- While RESET_N is asserted an event does nothing, and otherwise it ends with what its operation makes of the channels. -/
theorem State.event_keepsSound {s : State} {f : State → State} (h : KeepsDrive s (f s)) : KeepsSound s (s.event f) := by
  intro hs
  unfold State.event
  split
  · exact hs
  next hreset =>
    exact ((State.commit_steady _).driveHeld (h (State.driveHeld_of_sound hs ((Bool.not_eq_true _).mp hreset)))).sound

/-- An event taken where it is due, and out of place otherwise (log 2). -/
theorem State.dueEvent_keepsSound {c : Prop} [Decidable c] {s : State} {f : State → State} (h : KeepsDrive s (f s)) :
    KeepsSound s (if c then s.event f else s) := by
  split
  · exact State.event_keepsSound h
  · exact id

theorem State.undueEvent_keepsSound {c : Prop} [Decidable c] {s : State} {f : State → State} (h : KeepsDrive s (f s)) :
    KeepsSound s (if c then s else s.event f) := by
  split
  · exact id
  · exact State.event_keepsSound h

/-- The levels of a line bring about an operation of the link, or nothing (log 9). -/
theorem State.wire_keepsDrive (s : State) (l : LinkId) (levels : List Level) (e : WireEvent) {f : State → State}
    (hf : ∀ u, KeepsDrive u (f u)) : KeepsDrive s (s.wire l levels e f) := by
  unfold State.wire
  split
  · exact .refl s
  · split
    · exact (s.modLink_steady l _).keepsDrive.trans (hf _)
    · exact .refl s

theorem State.wireEvent_keepsSound (s : State) (l : LinkId) (levels : List Level) (e : WireEvent) {f : State → State}
    (hf : ∀ u, Steady u (f u)) : KeepsSound s (s.event fun t => t.wire l levels e f) :=
  State.event_keepsSound (s.wire_keepsDrive l levels e fun u => (hf u).keepsDrive)

theorem State.presentTransfer_keepsSound (s : State) (t : Transfer) : KeepsSound s (s.presentTransfer t) := by
  intro hs
  unfold State.presentTransfer
  dsimp only
  split
  · exact hs
  next hreset =>
    have hheld := State.driveHeld_of_sound hs ((Bool.not_eq_true _).mp hreset)
    exact ((State.commit_steady _).driveHeld
      (State.takeNext_keepsDrive _ ((s.modPath_steady _).driveHeld hheld))).sound

theorem State.request_keepsSound (s : State) (t : Option Transfer) : KeepsSound s (s.request t) := by
  cases t with
  | none => exact id
  | some t => exact s.presentTransfer_keepsSound t

theorem execMirroredMessageEnd_endsDriven (l : LinkId) (s : State) : EndsDriven s (execMirroredMessageEnd l s) := by
  unfold execMirroredMessageEnd EndsDriven
  dsimp only
  split
  · exact id
  · exact State.event_keepsSound (s.mirroredEnds_keepsDrive l _)

/-- During the reset every channel is at its reset value, under the empty plan (R22, R45, R139). -/
theorem State.startReset_driveSound (s : State) (planSel : BitVec 4) : (s.startReset planSel).driveSound = true := by
  obtain ⟨hrecords, hline, hguards, -⟩ := State.reset.driveSound_iff.mp State.reset_driveSound
  exact (State.driveSound_iff _).mpr ⟨hrecords, hline, ⟨hguards.judged, hguards.guarded⟩, fun _ =>
    ⟨rfl, fun c => congrArg Channel.state (State.reset_chan c)⟩⟩

/-- Under the empty plan no condition is read. -/
theorem State.guardResults_of_empty {s t : State} (hs : s.plan = Plan.empty) (ht : t.plan = Plan.empty) :
    t.guardResults = s.guardResults := by
  refine look_ext fun i => ?_
  simp [State.guardResults, hs, ht, Plan.empty]

/-- The inputs read as the reset ends leave every channel in SAFE (R139). -/
theorem State.inputsRead_held {s : State} (h : s.driveSound = true) (hreset : s.inReset = true) (i : InputLevels) :
    (s.inputsRead i).DriveHeld := by
  obtain ⟨hrecords, -, hguards, hsafe⟩ := s.driveSound_iff.mp h
  obtain ⟨hplan, hsafe⟩ := hsafe hreset
  have hchan (c : ChanId) : (s.inputsRead i).chan c = (s.chan c).readEnds (look i.endOut c) (look i.endIn c) :=
    look_updateAll _ _ _
  have hstate (c : ChanId) : ((s.inputsRead i).chan c).state = .safe := by rw [hchan]; exact hsafe c
  refine ⟨⟨rfl, fun c => ?_⟩, ⟨?_, fun c => ?_⟩, fun _ c => .inl (hstate c)⟩
  · obtain ⟨hdir, hduty, hdwell, htimers, htrip⟩ := hrecords c
    rw [hchan]
    exact ⟨hdir, hduty, hdwell, htimers, htrip⟩
  · exact hguards.judged.trans (State.guardResults_of_empty (t := s.inputsRead i) hplan hplan).symm
  · rw [State.unguarded, hstate]
    rfl

theorem State.resetEnds_driveSound {s : State} (h : s.driveSound = true) (hreset : s.inReset = true) (i : InputLevels) :
    (s.resetEnds i).driveSound = true :=
  ((State.commit_steady _).driveHeld
    (State.takeUpTo_keepsDrive s.path.port.length _ (State.inputsRead_held h hreset i))).sound

/-- No command leaves a drive channel unsound. -/
theorem exec_endsDriven (c : Instr) (s : State) : EndsDriven s (exec c s) := by
  cases c with
  | startReset planSel => exact fun _ => s.startReset_driveSound planSel
  | resetEnd i =>
    show KeepsSound s (if s.inReset then s.resetEnds i else s)
    split
    next hreset => exact fun h => State.resetEnds_driveSound h hreset i
    next => exact id
  | stampTick => exact State.event_keepsSound s.tick_steady.keepsDrive
  | upstreamTransferTaken t => exact EndsDriven.ite (s.presentTransfer_keepsSound t)
  | downstreamGrant => exact State.event_keepsSound (s.modPath_steady _).keepsDrive
  | pieceAnswered i k code data => exact State.event_keepsSound (s.pieceAnswered_steady i k code data).keepsDrive
  | upstreamResponseLeaves => exact State.event_keepsSound s.responseLeaves_keepsDrive
  | planSequenceTrigger id value => exact s.presentTransfer_keepsSound _
  | modeRequestSetup l id | modeRequestRun l id | modeRequestListen l id | modeRequestMirror l id
  | modeRequestQuiet l id | send l i id body | answer l i id body | abort l i id | abortAll l id | release r e id
  | enable c id f | disable c id f | moveOut c id f | moveIn c id f | goto c id f | stop c id f | clearTrip c id f
  | watchOn c id f | watchOff c id f => exact s.request_keepsSound _
  | latentFetch w n id | take w n id => exact EndsDriven.ite (s.request_keepsSound _)
  | planReadComplete nth code data => exact State.event_keepsSound (s.planReadCompletes_keepsDrive nth code data)
  | slotFetchComplete nth code data =>
    exact State.event_keepsSound (s.slotFetchCompletes_steady nth code data).keepsDrive
  | ringBodyWriteComplete nth code => exact State.event_keepsSound (s.bodyWriteCompletes_steady nth code).keepsDrive
  | ringMarkerWriteComplete nth code => exact State.event_keepsSound (s.markerWriteCompletes_steady nth code).keepsDrive
  | repeaterReadComplete nth code data =>
    exact State.event_keepsSound (s.repeaterReadCompletes_steady nth code data).keepsDrive
  | quietGap l levels =>
    exact State.undueEvent_keepsSound (s.wire_keepsDrive l levels _ fun u => (u.quietGap_steady l).keepsDrive)
  | recovery l levels =>
    exact State.dueEvent_keepsSound (s.wire_keepsDrive l levels _ fun u => (u.recover_steady l).keepsDrive)
  | startMarkRead l levels => exact s.wireEvent_keepsSound l levels _ fun u => u.modLink_steady l _
  | arbitrationLost l levels => exact s.wireEvent_keepsSound l levels _ fun u => u.endMessage_steady l _ _
  | messageSent l levels => exact s.wireEvent_keepsSound l levels _ fun u => u.messageSent_steady l
  | messageReceived l levels =>
    exact State.event_keepsSound (s.wire_keepsDrive l levels _ fun u => u.messageReceived_keepsDrive l)
  | shapeError l levels => exact s.wireEvent_keepsSound l levels _ fun u => u.countedError_steady l _ _ _
  | checkError l levels => exact s.wireEvent_keepsSound l levels _ fun u => u.checkError_steady l
  | noConfirmError l levels => exact s.wireEvent_keepsSound l levels _ fun u => u.countedError_steady l _ _ _
  | clashError l levels => exact s.wireEvent_keepsSound l levels _ fun u => u.countedError_steady l _ _ _
  | stuck l levels => exact s.wireEvent_keepsSound l levels _ fun u => u.countedError_steady l _ _ _
  | errorMarkEnd l levels => exact s.wireEvent_keepsSound l levels _ fun u => u.endMessage_steady l _ _
  | quietWake l levels => exact s.wireEvent_keepsSound l levels _ fun u => u.wake_steady l
  | mirrorGapEnd l =>
    exact State.dueEvent_keepsSound ((s.modLink_steady l _).trans (State.kick_steady _ l)).keepsDrive
  | mirroredMessageEnd l => exact execMirroredMessageEnd_endsDriven l s
  | autoExpiry p => exact State.dueEvent_keepsSound (s.autoExpires_steady p).keepsDrive
  | replyTimeout p => exact State.dueEvent_keepsSound (s.replyExpires_steady p).keepsDrive
  | stalenessExpiry p => exact State.dueEvent_keepsSound (s.modPoll_reevaluate_keepsDrive p _)
  | rampEnd c => exact State.dueEvent_keepsSound (s.rampEnds_keepsDrive c)
  | currentConversion c v => exact State.event_keepsSound (s.convert_steady c v).keepsDrive
  | overcurrentEvent c => exact State.dueEvent_keepsSound (s.overcurrent_keepsDrive c)
  | pulse c => exact State.event_keepsSound (s.pulse_keepsDrive c)
  | endSwitchChange c which active => exact State.undueEvent_keepsSound (s.endSwitch_keepsDrive c which active)
  | dwellExpiry c =>
    show KeepsSound s (if s.dwellDue c then s.event fun t => t.toRest c .ready else s)
    split
    next hdue => exact State.event_keepsSound (State.dwellExpires_keepsDrive hdue)
    next => exact id
  | stallExpiry c => exact State.dueEvent_keepsSound (s.trip_keepsDrive c .stall)
  | runtimeExpiry c => exact State.dueEvent_keepsSound (s.trip_keepsDrive c .runtime)
  | holdExpiry c => exact State.dueEvent_keepsSound (s.stopMotion_keepsDrive c .holdLapse)
  | eslAssertion => exact State.undueEvent_keepsSound s.eslAsserts_keepsDrive
  | eslRelease => exact State.event_keepsSound s.eslRelease_keepsDrive
  | attentionPulseEnd | attentionGapEnd => exact State.event_keepsSound (s.modStatus_steady _).keepsDrive
  | repeaterPeriodExpiry => exact State.dueEvent_keepsSound s.periodExpires_steady.keepsDrive
  | frameSent => exact State.dueEvent_keepsSound s.frameEnds_steady.keepsDrive
  | finishingFrameSent =>
    exact State.dueEvent_keepsSound (s.modRepeater_repeaterSide _).steady.keepsDrive

theorem EndsDriven.sound {s t : State} {o : Host.Outcome State Fault Refusal} (h : EndsDriven s o) (ho : o = .next t) :
    KeepsSound s t := by
  subst ho
  exact h

theorem step_keepsSound {s t : State} (hstep : step s = .next t) : KeepsSound s t := by
  refine EndsDriven.sound ?_ hstep
  unfold step
  split
  · exact fun h => s.idle_driveSound.trans h
  next c _ _ => exact exec_endsDriven c s.dequeue

/-! ### The motor outputs (Table 7-2) -/

/-- A channel that moves in a direction has every guard of it met (R151). -/
theorem State.GuardsHeld.met {s : State} (h : s.GuardsHeld) {c : ChanId} {d : Dir}
    (hd : (s.chan c).state.driven = some d) : s.guardsMet c d = true := by
  have hguarded := h.guarded c
  rw [State.unguarded, hd] at hguarded
  simpa using hguarded

/-- A direction with a guard unmet is not the driven one. -/
theorem State.GuardsHeld.not_driven {s : State} (h : s.GuardsHeld) {c : ChanId} {d : Dir}
    (hunmet : s.guardsMet c d = false) : (s.chan c).state.driven ≠ some d := by
  intro hd
  rw [h.met hd] at hunmet
  cases hunmet

theorem Channel.outputs_out_of_undriven {ch : Channel} (h : ch.state.driven ≠ some .outward) :
    ch.outputs.1 = false := by
  cases hst : ch.state <;> simp_all [Channel.outputs, ChanState.driven]

theorem Channel.outputs_in_of_undriven {ch : Channel} (h : ch.state.driven ≠ some .inward) :
    ch.outputs.2.1 = false := by
  cases hst : ch.state <;> simp_all [Channel.outputs, ChanState.driven]

/-- Settles O54: every step keeps the channels sound, and the outputs are read off the state of a sound channel. -/
theorem driveSoundKept : Obligations.DriveSoundKept := by
  intro s t hs hstep
  have ht := step_keepsSound hstep hs
  obtain ⟨hrecords, hline, hguards, hreset⟩ := t.driveSound_iff.mp ht
  refine ⟨ht, fun c => ?_⟩
  have hoff (hm : (t.chan c).state.moving = false) : (t.chan c).outputs = (false, false, 0) :=
    Channel.outputs_of_not_moving hm
  refine ⟨fun hst => ?_, fun hst => ?_, fun hout hin => ?_, fun h => hoff ?_, fun hunmet => ?_, fun hunmet => ?_⟩
  · exact Channel.outputs_of_driven (d := .outward) (by rw [hst]; rfl)
  · exact Channel.outputs_of_driven (d := .inward) (by rw [hst]; rfl)
  · have hm : (t.chan c).state.moving = false := by
      rw [← Bool.not_eq_true, ChanState.moving_eq_true]
      exact fun h => h.elim hout hin
    exact ⟨hoff hm, (hrecords c).duty hm⟩
  · have hhalted : (t.chan c).state = .safe ∨ (t.chan c).state = .tripped :=
      h.elim (fun hesl => hline hesl c) fun hr => .inl ((hreset hr).2 c)
    rcases hhalted with hc | hc <;> rw [hc] <;> rfl
  · exact Channel.outputs_out_of_undriven (hguards.not_driven hunmet)
  · exact Channel.outputs_in_of_undriven (hguards.not_driven hunmet)

end Sys2Proof.Machine
end

section
/-! Drive commands from the zone (O41, O43 to O46): what the taking of a command block does, accepted or refused. -/

namespace Sys2Proof.Machine

/-! ### Writes of one channel's command block (R7, R124) -/

/-- A write of words of one channel's command block, at least one byte of each, the first word once. -/
structure WritesBlock (c : ChanId) (x : Touch) (xs : List Touch) : Prop where
  first : ∃ w, x.1 = .command c w
  enabled : x.2.enables ≠ 0
  rest : ∀ y ∈ xs, (∃ w, y.1 = .command c w) ∧ y.2.enables ≠ 0 ∧ y.1 ≠ x.1

theorem State.beatDisposition_command (s : State) (ts : List Touch) {c : ChanId} {x : Touch}
    (hword : ∃ w, x.1 = .command c w) (henabled : x.2.enables ≠ 0) :
    s.beatDisposition ts x = if s.acceptsBlock ts c then .passTrigger else .withhold := by
  obtain ⟨w, hw⟩ := hword
  simp only [State.beatDisposition, State.writeDisposition, hw, WordRef.wordClass, if_neg henabled]

theorem firstTouched_cons {c : ChanId} {x : Touch} (hword : ∃ w, x.1 = .command c w) (henabled : x.2.enables ≠ 0)
    (xs : List Touch) : firstTouched (x :: xs) c = some x.1 := by
  obtain ⟨w, hw⟩ := hword
  rw [firstTouched, List.find?_cons_of_pos]
  · rfl
  · simpa [hw] using henabled

namespace WritesBlock

variable {c : ChanId} {x : Touch} {xs : List Touch}

theorem disposition (h : WritesBlock c x xs) (s : State) {y : Touch} (hy : y ∈ x :: xs) :
    s.beatDisposition (x :: xs) y = if s.acceptsBlock (x :: xs) c then .passTrigger else .withhold := by
  rcases List.mem_cons.mp hy with rfl | hy
  · exact s.beatDisposition_command _ h.first h.enabled
  · obtain ⟨hword, henabled, -⟩ := h.rest y hy
    exact s.beatDisposition_command _ hword henabled

/-- The words after the first one touched add nothing. -/
theorem beatEffects_rest (h : WritesBlock c x xs) (s : State) (acc : State × List Notice) {ys : List Touch}
    (hys : ∀ y ∈ ys, y ∈ xs) : ys.foldl (s.beatEffect (x :: xs)) acc = acc := by
  induction ys with
  | nil => rfl
  | cons y ys ih =>
    obtain ⟨⟨w, hw⟩, -, hne⟩ := h.rest y (hys y List.mem_cons_self)
    have hother : firstTouched (x :: xs) c ≠ some y.1 := by
      rw [firstTouched_cons h.first h.enabled]
      exact fun heq => hne (Option.some.inj heq).symm
    have hbeat : s.beatEffect (x :: xs) acc y = acc := by
      unfold State.beatEffect
      rw [hw] at hother ⊢
      exact if_neg fun hc => hother hc.2
    rw [List.foldl_cons, hbeat]
    exact ih fun z hz => hys z (List.mem_cons_of_mem _ hz)

/-- The block has its effect once, at its first word (R124, R127). -/
theorem writeEffects (h : WritesBlock c x xs) (s : State) :
    s.writeEffects (x :: xs) = (s.blockEffect s (x :: xs) c, []) := by
  have hbeat : s.beatEffect (x :: xs) (s, []) x = (s.blockEffect s (x :: xs) c, []) := by
    obtain ⟨w, hw⟩ := h.first
    have hfirst := firstTouched_cons h.first h.enabled xs
    unfold State.beatEffect
    rw [hw] at hfirst ⊢
    exact if_pos ⟨h.enabled, hfirst⟩
  rw [State.writeEffects, List.foldl_cons, hbeat]
  exact h.beatEffects_rest s _ fun _ hy => hy

end WritesBlock

/-! ### The taking of such a write (R1, R5, R13, R16) -/

theorem passRuns_replicate_passTrigger (k n m : Nat) (hm : n + m ≠ 0) :
    passRuns k n (List.replicate m .passTrigger) = [(k - n, n + m)] := by
  induction m generalizing k n with
  | zero => simpa [passRuns] using hm
  | succ m ih =>
    have hpass : Disposition.passTrigger.passes = true := rfl
    rw [List.replicate_succ, passRuns, if_pos hpass, ih _ _ (by omega), Nat.add_sub_add_right, Nat.add_right_comm,
      Nat.add_assoc]

theorem passRuns_replicate_withhold (k m : Nat) : passRuns k 0 (List.replicate m .withhold) = [] := by
  induction m generalizing k with
  | zero => rfl
  | succ m ih => exact ih (k + 1)

/-- A block that passes is one piece (R13). -/
theorem newEntry_blockPassed {t : Transfer} (hwrite : isWriteTransfer t = true) (hcount : t.beatCount ≠ 0) :
    newEntry t (List.replicate t.beatCount .passTrigger) [] [] =
      passedEntry t (List.replicate t.beatCount .passTrigger) [] := by
  obtain ⟨-, -, -, hbeats⟩ := State.reset.taking_write hwrite
  have hall : (writeBeats t).take t.beatCount = writeBeats t := List.take_of_length_le hbeats.ge
  have hruns := passRuns_replicate_passTrigger 0 0 t.beatCount (by omega)
  simp [newEntry, passedEntry, piecesOf, hruns, hall, hwrite]

theorem newEntry_withheld {t : Transfer} (hwrite : isWriteTransfer t = true) :
    newEntry t (List.replicate t.beatCount .withhold) [] [] = withheldEntry t := by
  have hruns := passRuns_replicate_withhold 0 t.beatCount
  simp [newEntry, withheldEntry, piecesOf, hruns, hwrite]

theorem firstWithheld_replicate_passTrigger (n : Nat) : firstWithheld (List.replicate n .passTrigger) = none := by
  rw [firstWithheld, List.findIdx?_eq_none_iff]
  intro d hd
  rw [List.eq_of_mem_replicate hd]
  rfl

/-- The capture of a write withheld whole, at its first word (R16). -/
def State.captureWhole (s : State) (t : Transfer) : State :=
  ((s.bump .withheld).modStatus fun u => { u with lastWithheld := t.start }).raise .withheld

theorem State.captureWithheld_whole (s : State) (t : Transfer) {n : Nat} (hn : n ≠ 0) :
    s.captureWithheld t (List.replicate n .withhold) = s.captureWhole t := by
  obtain ⟨m, rfl⟩ := Nat.exists_eq_succ_of_ne_zero hn
  have hfirst : firstWithheld (List.replicate (m + 1) .withhold) = some 0 := by
    rw [firstWithheld, List.replicate_succ, List.findIdx?_cons]
    rfl
  have haddr : beatAddr t 0 = t.start := by simp [beatAddr]
  rw [State.captureWithheld, hfirst]
  dsimp only
  rw [haddr]
  rfl

theorem State.blockEffect_driveOnly (s j : State) (ts : List Touch) (c : ChanId) :
    DriveOnly s (s.blockEffect j ts c) := by
  unfold State.blockEffect
  split
  · exact s.modChan_driveOnly c _
  · split
    · exact s.modChan_driveOnly c _
    · exact s.applyCommand_driveOnly c _ _

theorem DriveOnly.path {s t : State} (h : DriveOnly s t) : t.path = s.path := by
  obtain ⟨-, _, _, _, _, rfl⟩ := h
  rfl

/-- What the taking of a write to one channel's block makes of the state and of the order list. -/
theorem State.presentTransfer_block {s : State} {t : Transfer} {c : ChanId} {x : Touch} {xs : List Touch}
    (hnow : s.takesNow = true) (hwrite : isWriteTransfer t = true) (ht : s.touches t = x :: xs)
    (h : WritesBlock c x xs) :
    s.presentTransfer t =
      if s.acceptsBlock (x :: xs) c then
        (s.blockEffect s (x :: xs) c).withEntry (passedEntry t (List.replicate t.beatCount .passTrigger) [])
      else ((s.blockEffect s (x :: xs) c).captureWhole t).withEntry (withheldEntry t) := by
  obtain ⟨-, -, -, hstaged, hdelivered⟩ := s.takesNow_iff.mp hnow
  obtain ⟨hdispositions, heffects, hsnapshot, hbeats⟩ := s.taking_write hwrite
  have hlength : (x :: xs).length = t.beatCount := by rw [← ht, s.touches_length, hbeats]
  have hcount : t.beatCount ≠ 0 := by rw [← hlength]; exact Nat.succ_ne_zero _
  have heffect : s.takeEffects t = (s.blockEffect s (x :: xs) c, []) := by rw [heffects, ht, h.writeEffects]
  have hempty : (s.blockEffect s (x :: xs) c).path.staged = [] :=
    (congrArg Path.staged (s.blockEffect_driveOnly s (x :: xs) c).path).trans hstaged
  have hds : s.dispositions t =
      List.replicate t.beatCount (if s.acceptsBlock (x :: xs) c then .passTrigger else .withhold) := by
    rw [hdispositions, ht]
    refine List.eq_replicate_iff.mpr ⟨(List.length_map _).trans hlength, fun d hd => ?_⟩
    obtain ⟨y, hy, rfl⟩ := List.mem_map.mp hd
    exact h.disposition s hy
  rw [s.presentTransfer_now t hnow, s.taking_of_delivered t hdelivered, heffect, hds, hsnapshot]
  split
  · rw [newEntry_blockPassed hwrite hcount, State.captureWithheld, firstWithheld_replicate_passTrigger]
    exact State.commit_of_empty _ hempty
  · rw [newEntry_withheld hwrite, State.captureWithheld_whole _ t hcount]
    exact State.commit_of_empty _ hempty

/-! ### A command block in one transfer (Table 11-14) -/

/-- The words of a command block with the beats that a zone command writes to them. -/
def blockTouches (c : ChanId) (k : CmdCode) (f : CommandFields) : List Touch :=
  [(.command c 0, fullBeat (f.runLimit ++ f.speed ++ k.code)), (.command c 1, fullBeat f.target),
    (.command c 2, fullBeat (f.ignored.setWidth 32)), (.command c 3, fullBeat ((f.ignored >>> 32).setWidth 32))]

theorem blockTouches_writesBlock (c : ChanId) (k : CmdCode) (f : CommandFields) :
    WritesBlock c (.command c 0, fullBeat (f.runLimit ++ f.speed ++ k.code)) (blockTouches c k f).tail := by
  have hfull (v : Word) : (fullBeat v).enables ≠ 0 := by
    show 15#4 ≠ 0
    decide
  refine ⟨⟨0, rfl⟩, hfull _, fun y hy => ?_⟩
  simp only [blockTouches, List.tail_cons, List.mem_cons, List.not_mem_nil, or_false] at hy
  rcases hy with rfl | rfl | rfl <;> exact ⟨⟨_, rfl⟩, hfull _, by simp⟩

theorem blockWord_toNat (k : CmdCode) (f : CommandFields) :
    (f.runLimit ++ f.speed ++ k.code : Word).toNat = f.runLimit.toNat * 65536 + f.speed.toNat * 256 + k.code.toNat := by
  have happend : (f.runLimit ++ f.speed ++ k.code : Word).toNat =
      (f.runLimit.toNat <<< 8 ||| f.speed.toNat) <<< 8 ||| k.code.toNat := by
    refine (BitVec.toNat_append _ _).trans ?_
    rw [BitVec.toNat_append]
  rw [happend, ← Nat.shiftLeft_add_eq_or_of_lt f.speed.isLt, ← Nat.shiftLeft_add_eq_or_of_lt k.code.isLt,
    Nat.shiftLeft_eq, Nat.shiftLeft_eq]
  omega

/-- The first word of a block holds the code, the speed and the run limit, low byte first. -/
theorem blockCommand_zone (k : CmdCode) (f : CommandFields) :
    blockCommand (f.runLimit ++ f.speed ++ k.code) f.target = zoneFields k f := by
  have hword := blockWord_toNat k f
  have hcode : byteOf (f.runLimit ++ f.speed ++ k.code) 0 = k.code := by
    refine BitVec.eq_of_toNat_eq ?_
    rw [byteOf, BitVec.toNat_setWidth, BitVec.toNat_ushiftRight, hword, Nat.shiftRight_eq_div_pow]
    omega
  have hspeed : byteOf (f.runLimit ++ f.speed ++ k.code) 1 = f.speed := by
    refine BitVec.eq_of_toNat_eq ?_
    rw [byteOf, BitVec.toNat_setWidth, BitVec.toNat_ushiftRight, hword, Nat.shiftRight_eq_div_pow]
    omega
  have hlimit : ((f.runLimit ++ f.speed ++ k.code : Word) >>> 16).toNat = f.runLimit.toNat := by
    rw [BitVec.toNat_ushiftRight, hword, Nat.shiftRight_eq_div_pow]
    omega
  rw [blockCommand, hcode, hspeed, hlimit]
  rfl

/-- A transfer of the whole block presents its command (R124). -/
theorem presentedCommand_block (c : ChanId) (k : CmdCode) (f : CommandFields) :
    presentedCommand (blockTouches c k f) c = some (zoneFields k f) := by
  rw [← blockCommand_zone]
  simp [presentedCommand, fullWrite, blockTouches, WriteBeat.full, fullBeat]

theorem State.blockEffect_of_accepted (s : State) {j : State} {ts : List Touch} {c : ChanId} {d : DriveCommand}
    (h : presentedCommand ts c = some d) (hjudge : j.judge c .zone d = none) :
    s.blockEffect j ts c = s.applyCommand c .zone d := by
  rw [State.blockEffect, h]
  dsimp only
  rw [hjudge]

theorem State.blockEffect_of_refused (s : State) {j : State} {ts : List Touch} {c : ChanId} {d : DriveCommand}
    {r : RefuseReason} (h : presentedCommand ts c = some d) (hjudge : j.judge c .zone d = some r) :
    s.blockEffect j ts c = s.refuse c .zone r d.code := by
  rw [State.blockEffect, h]
  dsimp only
  rw [hjudge]

theorem State.acceptsBlock_of_presented (s : State) {ts : List Touch} {c : ChanId} {d : DriveCommand}
    (h : presentedCommand ts c = some d) : s.acceptsBlock ts c = (s.judge c .zone d).isNone := by
  rw [State.acceptsBlock, h]
  rfl

theorem exec_blockInstr (k : CmdCode) (c : ChanId) (id : TransferId) (f : CommandFields) (s : State) :
    exec (blockInstr k c id f) s = .next (s.zoneCommand c k id f) := by
  cases k <;> rfl

/-- A zone command taken now: the effect of its block, which passes or is withheld whole as the checks judge it. -/
theorem State.exec_zoneCommand {s : State} {c : ChanId} {k : CmdCode} {id : TransferId} {f : CommandFields}
    (h : s.takesBlock c k id f = true) :
    ∃ x, commandTransfer s.plan c k.code id f = some x ∧ x.beatCount = 4
      ∧ exec (blockInstr k c id f) s = .next (
        if (s.judge c .zone (zoneFields k f)).isNone then
          (s.blockEffect s (blockTouches c k f) c).withEntry (blockEntry x)
        else ((s.blockEffect s (blockTouches c k f) c).captureWhole x).withEntry (withheldEntry x)) := by
  simp only [State.takesBlock, Bool.and_eq_true, Option.any_eq_true, beq_iff_eq] at h
  obtain ⟨hnow, x, hx, hrefs⟩ := h
  obtain ⟨hwrite, hcount, ht⟩ : isWriteTransfer x = true ∧ x.beatCount = 4 ∧ s.touches x = blockTouches c k f := by
    obtain ⟨a, -, rfl⟩ := Option.map_eq_some_iff.mp hx
    refine ⟨rfl, rfl, ?_⟩
    rw [State.touches, hrefs]
    rfl
  refine ⟨x, hx, hcount, ?_⟩
  have htaken := State.presentTransfer_block hnow hwrite ht (blockTouches_writesBlock c k f)
  rw [exec_blockInstr, State.zoneCommand, hx, State.request, htaken, hcount,
    ← s.acceptsBlock_of_presented (presentedCommand_block c k f)]
  rfl

/-- A zone command taken now that the checks accept passes whole. -/
theorem State.exec_zoneCommand_accepted {s : State} {c : ChanId} {k : CmdCode} {id : TransferId} {f : CommandFields}
    (h : s.takesBlock c k id f = true) (hjudge : s.judge c .zone (zoneFields k f) = none) :
    ∃ x, commandTransfer s.plan c k.code id f = some x
      ∧ exec (blockInstr k c id f) s = .next ((s.command c .zone (zoneFields k f)).withEntry (blockEntry x)) := by
  obtain ⟨x, hx, -, hexec⟩ := State.exec_zoneCommand h
  rw [hjudge, s.blockEffect_of_accepted (presentedCommand_block c k f) hjudge] at hexec
  refine ⟨x, hx, ?_⟩
  rw [hexec, State.command, hjudge]
  rfl

/-- A zone command taken now that a check refuses is recorded and withheld whole. -/
theorem State.exec_zoneCommand_refused {s : State} {c : ChanId} {k : CmdCode} {id : TransferId} {f : CommandFields}
    {r : RefuseReason} (h : s.takesBlock c k id f = true) (hjudge : s.judge c .zone (zoneFields k f) = some r) :
    ∃ x, commandTransfer s.plan c k.code id f = some x ∧ x.beatCount = 4
      ∧ exec (blockInstr k c id f) s =
        .next (((s.refuse c .zone r k.code).captureWhole x).withEntry (withheldEntry x)) := by
  obtain ⟨x, hx, hcount, hexec⟩ := State.exec_zoneCommand h
  rw [hjudge, s.blockEffect_of_refused (presentedCommand_block c k f) hjudge] at hexec
  exact ⟨x, hx, hcount, hexec⟩

end Sys2Proof.Machine
end

section
/-! Drive commands (O43 to O46): the codes that the checks accept, and what a rest, a stop and a start leave unchanged where
no guard is broken. -/

namespace Sys2Proof.Machine

theorem State.guardsHeld_of_sound {s : State} (h : s.driveSound = true) : s.GuardsHeld := by
  obtain ⟨-, -, hguards, -⟩ := s.driveSound_iff.mp h
  exact hguards

/-! ### Codes that pass the checks (Table 7-6, Table 7-7) -/

theorem cmdOf_code (k : CmdCode) : cmdOf k.code = some k := by cases k <;> rfl

/-- A known code that its channel and its source may have is judged by the checks of its kind. -/
theorem State.judge_of_code (s : State) {c : ChanId} {src : CmdSource} {d : DriveCommand} {k : CmdCode}
    (hk : cmdOf d.code = some k) (hchan : k = .watchOn ∨ k = .watchOff → c = windlass)
    (hsrc : k.zoneOnly = true → src.deck = false) : s.judge c src d = s.checkKnown c src k d := by
  have hcode : checkCode c src d.code = none := by
    rw [checkCode, hk]
    dsimp only
    rw [if_neg (fun h => h.2 (hchan h.1)), if_neg]
    rw [Bool.and_eq_true]
    rintro ⟨hdeck, honly⟩
    rw [hsrc honly] at hdeck
    cases hdeck
  rw [State.judge, hcode, hk]
  rfl

/-- A code that asks for no motion passes in the states that accept it. -/
theorem State.checkKnown_other {s : State} {c : ChanId} {src : CmdSource} {k : CmdCode} {d : DriveCommand}
    (hmotion : k.motion = none) (haccepted : k.acceptedIn (s.chan c).state = true)
    (hset : k = .enable → (s.driveSettings c).isSome = true) (hesl : k = .enable ∨ k = .clearTrip → s.esl = false) :
    s.checkKnown c src k d = none := by
  have hstate : (!k.acceptedIn (s.chan c).state || (k == .enable && (s.driveSettings c).isNone)) = false := by
    rw [haccepted, Bool.not_true, Bool.false_or, Bool.and_eq_false_iff]
    by_cases hk : k = .enable
    · exact .inr (by simpa using hset hk)
    · exact .inl (beq_eq_false_iff_ne.mpr hk)
  have hline : ((k == .enable || k == .clearTrip) && s.esl) = false := by
    rw [Bool.and_eq_false_iff]
    by_cases hk : k = .enable ∨ k = .clearTrip
    · exact .inr (hesl hk)
    · exact .inl (by simpa [not_or] using hk)
  rw [State.checkKnown, hmotion]
  dsimp only
  rw [State.checkOther, hstate, hline]
  rfl

theorem State.command_of_accepted {s : State} {c : ChanId} {src : CmdSource} {d : DriveCommand}
    (h : s.judge c src d = none) : s.command c src d = s.applyCommand c src d := by
  rw [State.command, h]

/-! ### No guard broken (R150 to R152) -/

/-- From `s` to `t` every condition met stays met, and no channel has started to move. -/
structure Loosens (s t : State) : Prop where
  plan : t.plan = s.plan
  met : ∀ k, s.condMet k = true → t.condMet k = true
  driven : ∀ c, (t.chan c).state.driven = (s.chan c).state.driven ∨ (t.chan c).state.driven = none

theorem Loosens.guarded {s t : State} (h : Loosens s t) (hs : ∀ c, s.unguarded c = false) (c : ChanId) :
    t.unguarded c = false := by
  rw [State.unguarded]
  obtain hdriven | hdriven := h.driven c
  · rw [hdriven]
    have hc := hs c
    rw [State.unguarded] at hc
    split
    · rfl
    next d hd =>
      rw [hd] at hc
      simp only [State.guardsMet, State.guardsOf, Bool.not_eq_false', List.all_eq_true] at hc ⊢
      rw [h.plan]
      exact fun g hg => h.met _ (hc g hg)
  · rw [hdriven]

/-- One channel changed, its end switches as they were and STILL if it was, without starting. -/
theorem Loosens.of_update {s t : State} (c : ChanId) (f : Channel → Channel) (plan : t.plan = s.plan)
    (entries : t.poll.entries = s.poll.entries) (hchans : t.chans = update s.chans c f)
    (hends : ∀ d, (f (s.chan c)).endActive d = (s.chan c).endActive d)
    (hstill : (s.chan c).state.still = true → (f (s.chan c)).state.still = true)
    (hdriven : (f (s.chan c)).state.driven = none) : Loosens s t := by
  have hchan := State.chan_of_update hchans
  refine ⟨plan, fun k hk => ?_, fun d => ?_⟩
  · cases k with
    | atEnd e d =>
      show (t.chan e).endActive d = true
      rw [hchan]
      split
      next he => subst he; exact (hends d).trans hk
      next => exact hk
    | still e =>
      show (t.chan e).state.still = true
      rw [hchan]
      split
      next he => subst he; exact hstill hk
      next => exact hk
    | value p byte mask expected =>
      show (look t.poll.entries p).meets byte mask expected = true
      rw [entries]
      exact hk
  · rw [hchan]
    split
    next hd => subst hd; exact .inr hdriven
    next => exact .inl rfl

/-- One channel changed, its end switches as they were and as STILL as it was. -/
theorem SameConditions.of_update {s t : State} (c : ChanId) (f : Channel → Channel) (plan : t.plan = s.plan)
    (entries : t.poll.entries = s.poll.entries) (hchans : t.chans = update s.chans c f)
    (hends : ∀ d, (f (s.chan c)).endActive d = (s.chan c).endActive d)
    (hstill : (f (s.chan c)).state.still = (s.chan c).state.still) : SameConditions s t := by
  have hchan := State.chan_of_update hchans
  refine ⟨plan, entries, fun e => ?_, fun e d => ?_⟩ <;> rw [hchan] <;> split
  next he => subst he; exact hstill
  next => rfl
  next he => subst he; exact hends d
  next => rfl

/-- The judgement after one channel has ceased to move, or has not moved, changes nothing but the guard results. -/
theorem State.GuardsHeld.reevaluate_loosened {s t : State} (hs : s.GuardsHeld) (h : Loosens s t) :
    t.reevaluate = { t with guards := t.guardResults } :=
  State.reevaluate_of_guarded (h.guarded hs.guarded)

/-- Where every condition reads alike the results stay too. -/
theorem State.GuardsHeld.reevaluate_unchanged {s t : State} (hs : s.GuardsHeld) (h : Loosens s t)
    (hsame : SameConditions s t) (hguards : t.guards = s.guards) : t.reevaluate = t := by
  have hresults : t.guardResults = t.guards := by rw [hsame.guardResults, hguards, hs.judged]
  rw [hs.reevaluate_loosened h, hresults]

/-! ### A channel at rest (R128, R132, R138, R149) -/

/-- The state in which a channel has gone to rest, before the guards are judged. -/
def State.atRest (s : State) (c : ChanId) (st : ChanState) : State :=
  { s with chans := update s.chans c fun ch => ch.rest st, prots := update s.prots c Protection.rest }

theorem State.toRest_eq (s : State) (c : ChanId) (st : ChanState) : s.toRest c st = (s.atRest c st).reevaluate := rfl

theorem State.atRest_loosens (s : State) (c : ChanId) {st : ChanState} (hst : st = .safe ∨ st = .ready) :
    Loosens s (s.atRest c st) := by
  refine .of_update c (·.rest st) rfl rfl rfl (fun d => by cases d <;> rfl) (fun _ => ?_) ?_ <;>
    rcases hst with rfl | rfl <;> rfl

/-- A channel that goes to rest breaks no guard of another. -/
theorem State.toRest_of_guarded {s : State} (h : s.GuardsHeld) (c : ChanId) {st : ChanState}
    (hst : st = .safe ∨ st = .ready) :
    s.toRest c st = { s.atRest c st with guards := (s.atRest c st).guardResults } :=
  h.reevaluate_loosened (s.atRest_loosens c hst)

/-- One that was STILL changes no condition. -/
theorem State.toRest_of_still {s : State} (h : s.GuardsHeld) {c : ChanId} {st : ChanState} (hst : st = .safe ∨ st = .ready)
    (hstill : (s.chan c).state.still = true) : s.toRest c st = s.atRest c st := by
  refine h.reevaluate_unchanged (s.atRest_loosens c hst) (.of_update c (·.rest st) rfl rfl rfl (fun d => ?_) ?_) rfl
  · cases d <;> rfl
  · rw [hstill]
    rcases hst with rfl | rfl <;> rfl

/-! ### A motion that stops (R137) -/

/-- The state in which a motion has ended into its stop dwell. -/
def State.stopped (s : State) (c : ChanId) (r : StopReason) : State :=
  { s with
    chans := update s.chans c fun ch => ch.stop r (later s.now (s.stopDwell c))
    prots := update s.prots c Protection.endMotion }

theorem ChanState.still_of_moving {st : ChanState} (h : st.moving = true) : st.still = false := by
  rcases ChanState.moving_eq_true.mp h with rfl | rfl <;> rfl

/-- A motion ends without breaking a guard of another channel: STOPPING is as little STILL as the motion was. -/
theorem State.stopMotion_of_guarded {s : State} (h : s.GuardsHeld) {c : ChanId} (hm : (s.chan c).state.moving = true)
    (r : StopReason) : s.stopMotion c r = (s.stopped c r).raiseIf r.raises .stopped := by
  have hends (d : Dir) : ((s.chan c).stop r (later s.now (s.stopDwell c))).endActive d = (s.chan c).endActive d := by
    cases d <;> rfl
  rw [State.stopMotion, if_pos hm]
  refine h.reevaluate_unchanged (t := (s.stopped c r).raiseIf r.raises .stopped) ?_ ?_ rfl
  · exact .of_update c (·.stop r (later s.now (s.stopDwell c))) rfl rfl rfl hends
      (fun hstill => absurd ((ChanState.still_of_moving hm).symm.trans hstill) nofun) rfl
  · exact .of_update c (·.stop r (later s.now (s.stopDwell c))) rfl rfl rfl hends (ChanState.still_of_moving hm).symm

/-- Settles O43: READY is as STILL as SAFE, so nothing but the channel changes. -/
theorem enableMakesReady : Obligations.EnableMakesReady := by
  intro c id f s htakes hsound hsafe hset hesl
  have hjudge : s.judge c .zone (zoneFields .enable f) = none := by
    rw [s.judge_of_code (cmdOf_code .enable) (by simp) fun _ => rfl]
    exact State.checkKnown_other rfl (by rw [hsafe]; rfl) (fun _ => hset) fun _ => hesl
  obtain ⟨x, hx, hexec⟩ := State.exec_zoneCommand_accepted htakes hjudge
  refine ⟨x, hx, hexec.trans ?_⟩
  have hrest : s.toRest c .ready = s.atRest c .ready :=
    State.toRest_of_still (State.guardsHeld_of_sound hsound) (.inr rfl) (by rw [hsafe]; rfl)
  rw [State.command_of_accepted hjudge]
  exact congrArg (fun t => Host.Outcome.next (State.withEntry t _)) hrest

/-! ### STOP and DISABLE (R132) -/

theorem State.judge_stop {s : State} {c : ChanId} {src : CmdSource} {d : DriveCommand} (hk : cmdOf d.code = some .stop) :
    s.judge c src d = none := by
  rw [s.judge_of_code hk (by simp) nofun]
  exact State.checkKnown_other rfl rfl nofun (by simp)

theorem State.judge_disable {s : State} {c : ChanId} {src : CmdSource} {d : DriveCommand}
    (hk : cmdOf d.code = some .disable) (hne : (s.chan c).state ≠ .tripped) : s.judge c src d = none := by
  rw [s.judge_of_code hk (by simp) nofun]
  exact State.checkKnown_other rfl (bne_iff_ne.mpr hne) nofun (by simp)

theorem State.command_stop {s : State} {c : ChanId} {src : CmdSource} {d : DriveCommand} (hk : cmdOf d.code = some .stop) :
    s.command c src d = s.stopMotion c .command := by
  rw [State.command_of_accepted (State.judge_stop hk), State.applyCommand, hk]
  rfl

theorem State.command_stop_of_moving {s : State} {c : ChanId} {src : CmdSource} {d : DriveCommand} (h : s.GuardsHeld)
    (hk : cmdOf d.code = some .stop) (hm : (s.chan c).state.moving = true) :
    s.command c src d = s.stopped c .command := by
  rw [State.command_stop hk, State.stopMotion_of_guarded h hm]
  rfl

theorem State.command_stop_of_not_moving {s : State} {c : ChanId} {src : CmdSource} {d : DriveCommand}
    (hk : cmdOf d.code = some .stop) (hm : ¬ (s.chan c).state.moving = true) : s.command c src d = s := by
  rw [State.command_stop hk, State.stopMotion_of_not_moving hm]

/-- The state in which a channel has been disabled, before the guards are judged. -/
def State.disabled (s : State) (c : ChanId) : State :=
  { s with
    chans := update s.chans c fun ch =>
      { ch with
        state := .safe, motion := none, duty := 0, dwellEnd := none
        stopReason := if (s.chan c).state = .driveOut ∨ (s.chan c).state = .driveIn then .disabled else ch.stopReason }
    prots := update s.prots c fun k =>
      { k with onset := none, armed := true, stallExpiry := none, runExpiry := none, holdExpiry := none } }

/-- The stop reason that a DISABLE gives a motion (R132). -/
def Channel.noteDisable (ch : Channel) : Channel :=
  { ch with stopReason := if ch.state.moving then .disabled else ch.stopReason }

theorem State.applyDisable_eq (s : State) (c : ChanId) :
    s.applyDisable c = (s.modChan c Channel.noteDisable).toRest c .safe := rfl

theorem State.noteDisable_steady (s : State) (c : ChanId) : Steady s (s.modChan c Channel.noteDisable) :=
  s.modChan_steady c _ ⟨rfl, fun d => by cases d <;> rfl, fun h => ⟨h.dir, h.duty, h.dwell, h.timers, h.trip⟩⟩

theorem State.noteDisable_atRest (s : State) (c : ChanId) :
    (s.modChan c Channel.noteDisable).atRest c .safe = s.disabled c := by
  have hchans : update (update s.chans c Channel.noteDisable) c (·.rest .safe) = (s.disabled c).chans := by
    unfold State.disabled
    dsimp only
    rw [update_update]
    refine update_congr _ _ ?_
    simp only [Channel.rest, Channel.noteDisable, ChanState.moving_eq_true]
    rfl
  exact congrArg (fun v => { s with chans := v, prots := update s.prots c Protection.rest }) hchans

theorem State.command_disable {s : State} {c : ChanId} {src : CmdSource} {d : DriveCommand} (h : s.GuardsHeld)
    (hk : cmdOf d.code = some .disable) (hne : (s.chan c).state ≠ .tripped) :
    s.command c src d = { s.disabled c with guards := (s.disabled c).guardResults } := by
  have happly : s.applyCommand c src d = s.applyDisable c := by rw [State.applyCommand, hk]
  rw [State.command_of_accepted (State.judge_disable hk hne), happly, State.applyDisable_eq,
    State.toRest_of_guarded ((s.noteDisable_steady c).guardsHeld h) c (.inl rfl), s.noteDisable_atRest]

/-- Settles O44: neither code breaks a guard of another channel, and STOPPING is as little STILL as the motion it ends. -/
theorem stopAndDisableEndMotion : Obligations.StopAndDisableEndMotion := by
  refine ⟨fun c id f s htakes hsound => ?_, fun c id f s htakes hsound hne => ?_, fun c src d s hsound => ⟨fun hk => ?_,
    fun hk hne => ?_⟩⟩
  · obtain ⟨x, hx, hexec⟩ := State.exec_zoneCommand_accepted htakes (State.judge_stop (cmdOf_code .stop))
    refine ⟨x, hx, fun hm => hexec.trans ?_, fun hout hin => hexec.trans ?_⟩
    · rw [State.command_stop_of_moving (State.guardsHeld_of_sound hsound) (cmdOf_code .stop)
        (ChanState.moving_eq_true.mpr hm)]
      rfl
    · rw [State.command_stop_of_not_moving (cmdOf_code .stop)
        fun hm => (ChanState.moving_eq_true.mp hm).elim hout hin]
  · obtain ⟨x, hx, hexec⟩ := State.exec_zoneCommand_accepted htakes (State.judge_disable (cmdOf_code .disable) hne)
    rw [State.command_disable (State.guardsHeld_of_sound hsound) (cmdOf_code .disable) hne] at hexec
    have hother (d : ChanId) (hd : d ≠ c) : (s.disabled c).chan d = s.chan d ∧ (s.disabled c).prot d = s.prot d :=
      ⟨look_update_of_ne _ _ hd.symm, look_update_of_ne _ _ hd.symm⟩
    have hprot : (s.disabled c).prot c = (s.prot c).rest := look_update_self _ _ _
    refine ⟨_, hexec, look_update_self _ _ _, congrArg Protection.stallExpiry hprot, congrArg Protection.runExpiry hprot,
      congrArg Protection.holdExpiry hprot, hother, rfl, rfl, rfl, ⟨rfl, rfl⟩, ⟨rfl, rfl, rfl⟩, ⟨rfl, rfl, rfl⟩, rfl⟩
  · refine ⟨fun hm => ?_, fun hout hin => ?_⟩
    · exact State.command_stop_of_moving (State.guardsHeld_of_sound hsound) hk (ChanState.moving_eq_true.mpr hm)
    · exact State.command_stop_of_not_moving hk fun hm => (ChanState.moving_eq_true.mp hm).elim hout hin
  · exact State.command_disable (State.guardsHeld_of_sound hsound) hk hne

end Sys2Proof.Machine
end

section
/-! Ramp, current and warning (O48). -/

namespace Sys2Proof.Machine

/-- An event that leaves the memory path as it is (R159). -/
theorem State.event_samePath {s : State} {f : State → State} (hrun : s.running = true) (hpath : (f s).path = s.path) :
    s.event f = f s :=
  s.event_eq f hrun ((congrArg Path.staged hpath).trans (State.running_staged hrun))

/-! ### The ramp (R133, R143) -/

theorem State.rampEnds_of_motion {s : State} {c : ChanId} {m : Motion} (hm : (s.chan c).motion = some m) :
    s.rampEnds c =
      { s with
        chans := update s.chans c fun ch => { ch with duty := m.speed }
        prots := update s.prots c fun k => { k with stallExpiry := some (later m.rampEnd (s.stallTime c)) } } := by
  rw [State.rampEnds, hm]

theorem State.rampDue_of_motion {s : State} {c : ChanId} {m : Motion} (hm : (s.chan c).motion = some m)
    (hstall : (s.prot c).stallExpiry = none) (hreached : reached s.now m.rampEnd = true) : s.rampDue c = true := by
  rw [State.rampDue, hm]
  dsimp only
  rw [hstall, hreached]
  rfl

/-! ### Conversions (R121, R141) -/

theorem State.convert_path (s : State) (c : ChanId) (v : Current) : (s.convert c v).path = s.path := rfl

theorem State.convert_of_unmeasured {s : State} {c : ChanId} (h : (s.chan c).state.measured = false) (v : Current) :
    s.convert c v = { s with chans := update s.chans c fun ch => { ch with current := v } } := by
  have hprots : update s.prots c (fun k => if (s.chan c).state.measured then k.convert v (s.aboveThreshold c v) s.now
      else k) = s.prots := update_eq_self _ _ (by rw [h]; rfl)
  exact congrArg (fun ps => { s with chans := update s.chans c fun ch => { ch with current := v }, prots := ps }) hprots

/-- A conversion at the detector, by the comparison with the threshold (R141). -/
theorem Protection.convert_decide (k : Protection) (v : Current) (threshold : Nat) (now : Stamp) :
    k.convert v (decide (threshold < v.toNat)) now =
      { k with
        peak := if k.peak.toNat < v.toNat then v else k.peak
        onset := if threshold < v.toNat then (if k.armed = true ∧ k.onset = none then some now else k.onset) else none
        armed := if threshold < v.toNat then k.armed else true } := by
  by_cases habove : threshold < v.toNat <;> simp [Protection.convert, habove]

theorem State.aboveThreshold_of_settings {s : State} {c : ChanId} {set : DriveSettings} (hset : s.driveSettings c = some set)
    (v : Current) : s.aboveThreshold c v = decide (set.tripThreshold < v.toNat) := by
  rw [State.aboveThreshold, hset]

theorem State.convert_of_measured {s : State} {c : ChanId} {set : DriveSettings} (h : (s.chan c).state.measured = true)
    (hset : s.driveSettings c = some set) (v : Current) : s.convert c v =
      { s with
        chans := update s.chans c fun ch => { ch with current := v }
        prots := update s.prots c fun k =>
          { k with
            peak := if k.peak.toNat < v.toNat then v else k.peak
            onset := if set.tripThreshold < v.toNat then
                (if k.armed = true ∧ k.onset = none then some s.status.stamp else k.onset)
              else none
            armed := if set.tripThreshold < v.toNat then k.armed else true } } := by
  simp only [State.convert, h, if_true, State.aboveThreshold_of_settings hset, Protection.convert_decide]
  rfl

/-! ### Warnings (R142) -/

theorem State.modProt_modProt (s : State) (c : ChanId) (f g : Protection → Protection) :
    (s.modProt c f).modProt c g = s.modProt c fun k => g (f k) :=
  congrArg (fun ps => { s with prots := ps }) (update_update s.prots c f g)

theorem State.bump_warnings (s : State) (c : ChanId) :
    s.bump (.warnings c) = s.modProt c fun k => { k with warnings := satInc k.warnings } :=
  congrArg (fun ps => { s with prots := ps }) (update_congr _ _ rfl)

/-- A warning changes the detector and its count, and raises its cause. -/
theorem State.warn_eq (s : State) (c : ChanId) : s.warn c =
    { s with
      prots := update s.prots c fun k => { k with onset := none, armed := false, warnings := satInc k.warnings }
      status := s.status.raise s.plan.attentionMask s.plan.lineMode .currentWarn } := by
  rw [State.warn, State.bump_warnings, State.modProt_modProt]
  rfl

theorem State.overcurrent_of_warn {s : State} {c : ChanId} {set : DriveSettings} (hset : s.driveSettings c = some set)
    (hmode : set.tripMode = .warn) : s.overcurrent c = s.warn c := by
  rw [State.overcurrent, hset]
  dsimp only
  rw [hmode]

/-- Settles O48: each event, given what is due, is its operation's equation. -/
theorem rampCurrentAndWarning : Obligations.RampCurrentAndWarning := by
  refine ⟨fun c v s hrun => ⟨fun m hm hstall hreached => ?_, fun hstate => ?_, fun set hstate hset => ?_⟩,
    fun c set s hrun hdue hset hmode => ?_⟩
  · have hends := State.rampEnds_of_motion hm
    have hevent : s.event (fun t => t.rampEnds c) = s.rampEnds c := State.event_samePath hrun (by rw [hends])
    show Host.Outcome.next (if s.rampDue c then _ else _) = _
    rw [if_pos (State.rampDue_of_motion hm hstall hreached), hevent, hends]
  · have hmeasured : (s.chan c).state.measured = false := by
      simp only [List.mem_cons, List.not_mem_nil, or_false] at hstate
      rcases hstate with h | h | h <;> rw [h] <;> rfl
    exact congrArg Host.Outcome.next
      ((State.event_samePath hrun (s.convert_path c v)).trans (State.convert_of_unmeasured hmeasured v))
  · have hmeasured : (s.chan c).state.measured = true := by
      simp only [List.mem_cons, List.not_mem_nil, or_false] at hstate
      rcases hstate with h | h | h <;> rw [h] <;> rfl
    exact congrArg Host.Outcome.next
      ((State.event_samePath hrun (s.convert_path c v)).trans (State.convert_of_measured hmeasured hset v))
  · have hwarn : s.overcurrent c = _ := (State.overcurrent_of_warn hset hmode).trans (s.warn_eq c)
    have hevent : s.event (fun t => t.overcurrent c) = s.overcurrent c :=
      State.event_samePath hrun (by rw [hwarn])
    show Host.Outcome.next (if s.overcurrentDue c then _ else _) = _
    rw [if_pos hdue, hevent, hwarn]

end Sys2Proof.Machine
end

section
/-! Refused commands (O41). -/

namespace Sys2Proof.Machine

/-- A refusal of a zone command, which no counter counts (R127). -/
theorem State.refuse_zone (s : State) (c : ChanId) (r : RefuseReason) (b : Byte) : s.refuse c .zone r b =
    s.modChan c fun ch => { ch with lastRefusal := ⟨r, b, .zone, s.status.stamp⟩ } := rfl

/-- A refusal of a deck command is counted in the channel (R127). -/
theorem State.refuse_deck {src : CmdSource} (h : src.deck = true) (s : State) (c : ChanId) (r : RefuseReason) (b : Byte) :
    s.refuse c src r b =
      s.modChan c fun ch => { ch with lastRefusal := ⟨r, b, src, s.status.stamp⟩, refused := satInc ch.refused } := by
  rw [State.refuse, h]
  rfl

theorem CmdSource.deck_eq_true {src : CmdSource} : src.deck = true ↔ src = .deck0 ∨ src = .deck1 := by
  cases src <;> decide

theorem deckSource_deck (l : LinkId) : (deckSource l).deck = true := by
  unfold deckSource
  split <;> rfl

/-- One beat writes one word, so it does not present a command (R124). -/
theorem presentedCommand_single (c : ChanId) (w : Nat) (b : WriteBeat) : presentedCommand [(.command c w, b)] c = none := by
  have hother {v : Nat} (hv : w ≠ v) : fullWrite [(.command c w, b)] (.command c v) = none := by
    simp [fullWrite, hv]
  unfold presentedCommand
  by_cases hw : w = 0
  · rw [hother (v := 1) (by omega)]
    cases fullWrite [(.command c w, b)] (.command c 0) <;> rfl
  · rw [hother hw]

theorem State.blockEffect_of_none (s j : State) {ts : List Touch} {c : ChanId} (h : presentedCommand ts c = none) :
    s.blockEffect j ts c = s.refuse c .zone .badWrite 0 := by
  rw [State.blockEffect, h]

theorem State.acceptsBlock_of_none (s : State) {ts : List Touch} {c : ChanId} (h : presentedCommand ts c = none) :
    s.acceptsBlock ts c = false := by
  rw [State.acceptsBlock, h]
  rfl

/-- One beat of a command block alone (R124). -/
theorem State.presentTransfer_singleBlockBeat {s : State} {x : Transfer} {b : WriteBeat} {c : ChanId} {w : Nat}
    (hop : x.op = .write [b]) (henabled : b.enables ≠ 0) (hnow : s.takesNow = true) (hrefs : s.refsOf x = [.command c w]) :
    s.presentTransfer x = ((s.refuse c .zone .badWrite 0).captureWhole x).withEntry (withheldEntry x) := by
  have hwrite : isWriteTransfer x = true := by rw [isWriteTransfer, hop]
  have ht : s.touches x = [(.command c w, b)] := by
    rw [State.touches, hrefs, writeBeats, hop]
    rfl
  have hblock : WritesBlock c (.command c w, b) [] := ⟨⟨w, rfl⟩, henabled, nofun⟩
  have hnone := presentedCommand_single c w b
  rw [State.presentTransfer_block hnow hwrite ht hblock, s.acceptsBlock_of_none hnone, if_neg Bool.false_ne_true,
    s.blockEffect_of_none s hnone]

theorem withheldEntry_code {x : Transfer} (h : x.beatCount ≠ 0) : (withheldEntry x).code = .denied := by
  have hwithheld : (withheldEntry x).withheld = true :=
    List.contains_iff_mem.mpr (List.mem_replicate.mpr ⟨h, rfl⟩)
  rw [OrderEntry.code, hwithheld]
  rfl

/-- Settles O41: a refusal is a record of the channel, and a block that no command passes through is captured whole. -/
theorem refusedCommandIsRecorded : Obligations.RefusedCommandIsRecorded := by
  refine ⟨fun k c id f r s htakes hjudge => ?_, fun x b c w s hwf hop henabled hnow hrefs => ?_,
    fun c src d r s hsrc hjudge => ?_, fun c l m s hshort => ?_⟩
  · obtain ⟨x, hx, hcount, hexec⟩ := State.exec_zoneCommand_refused htakes hjudge
    refine ⟨x, hx, withheldEntry_code (by omega), hexec.trans ?_⟩
    rw [State.refuse_zone]
    rfl
  · rw [exec_upstreamTransferTaken s x hwf, State.presentTransfer_singleBlockBeat hop henabled hnow hrefs,
      State.refuse_zone]
    rfl
  · rw [State.command, hjudge]
    exact State.refuse_deck (CmdSource.deck_eq_true.mpr hsrc) s c r d.code
  · rw [State.deckCommand, if_pos hshort]
    exact State.refuse_deck (deckSource_deck l) s c .range _

end Sys2Proof.Machine
end

section
/-! The checks of a command in the order of Table 7-6 (O42). -/

namespace Sys2Proof.Machine

/-! ### The first check that holds -/

/-- The reason of the first check that holds. -/
def firstHeld (checks : List (Bool × RefuseReason)) : Option RefuseReason := (checks.find? (·.1)).map (·.2)

/-- The reason of one check. -/
def held (b : Bool) (r : RefuseReason) : Option RefuseReason := if b then some r else none

theorem firstHeld_nil : firstHeld [] = none := rfl

theorem firstHeld_cons (b : Bool) (r : RefuseReason) (checks : List (Bool × RefuseReason)) :
    firstHeld ((b, r) :: checks) = (held b r).or (firstHeld checks) := by
  cases b <;> rfl

theorem held_false (r : RefuseReason) : held false r = none := rfl

/-- A check before the others. -/
theorem held_or (b : Bool) (r : RefuseReason) (o : Option RefuseReason) :
    (held b r).or o = if b then some r else o := by
  cases b <;> rfl

/-! ### Known and unknown codes (Table 7-7) -/

theorem code_of_cmdOf {b : Byte} {k : CmdCode} (h : cmdOf b = some k) : b = k.code := by
  have hfound := List.find?_some (p := fun j : CmdCode => j.code == b) h
  exact (beq_iff_eq.mp hfound).symm

theorem CmdCode.code_beq (k j : CmdCode) : (k.code == j.code) = decide (k = j) := by
  have hinj : k.code = j.code ↔ k = j := by
    refine ⟨fun h => ?_, congrArg _⟩
    have hcmd := cmdOf_code k
    rw [h, cmdOf_code] at hcmd
    exact (Option.some.inj hcmd).symm
  rw [Bool.eq_iff_iff, beq_iff_eq, decide_eq_true_iff, hinj]

/-- A byte that is no code is 0 or above 9. -/
theorem unknown_of_cmdOf_none {b : Byte} (h : cmdOf b = none) : (b == 0 || decide (9 < b.toNat)) = true := by
  have hne (k : CmdCode) : k.code.toNat ≠ b.toNat := by
    have hk := List.find?_eq_none.mp h k (by cases k <;> decide)
    exact fun heq => hk (beq_iff_eq.mpr (BitVec.eq_of_toNat_eq heq))
  have h1 : 1 ≠ b.toNat := hne .enable
  have h2 : 2 ≠ b.toNat := hne .disable
  have h3 : 3 ≠ b.toNat := hne .moveOut
  have h4 : 4 ≠ b.toNat := hne .moveIn
  have h5 : 5 ≠ b.toNat := hne .goto
  have h6 : 6 ≠ b.toNat := hne .stop
  have h7 : 7 ≠ b.toNat := hne .clearTrip
  have h8 : 8 ≠ b.toNat := hne .watchOn
  have h9 : 9 ≠ b.toNat := hne .watchOff
  have hzero : b = 0 ↔ b.toNat = 0 := BitVec.toNat_inj.symm
  rw [Bool.or_eq_true, beq_iff_eq, decide_eq_true_iff, hzero]
  omega

theorem CmdCode.beq_eq (k j : CmdCode) : (k == j) = decide (k = j) := rfl

theorem CmdCode.zoneOnly_eq (k : CmdCode) : k.zoneOnly =
    (decide (k = .enable) || decide (k = .clearTrip) || decide (k = .watchOn) || decide (k = .watchOff)) := rfl

theorem CmdCode.known (k : CmdCode) : (k.code == 0) = false ∧ decide (9 < k.code.toNat) = false := by
  cases k <;> decide

/-! ### The checks of a known code -/

theorem checkCode_of_known {b : Byte} {k : CmdCode} (hk : cmdOf b = some k) (c : ChanId) (src : CmdSource) :
    checkCode c src b = (held ((decide (k = .watchOn) || decide (k = .watchOff)) && c != 0) .badCode).or
      (held (src.deck && k.zoneOnly) .badSource) := by
  rw [checkCode, hk]
  by_cases hwatch : (k = .watchOn ∨ k = .watchOff) ∧ c ≠ windlass
  · have hheld : ((decide (k = .watchOn) || decide (k = .watchOff)) && c != 0) = true := by simpa [windlass] using hwatch
    rw [hheld]
    exact if_pos hwatch
  · have hpass : ((decide (k = .watchOn) || decide (k = .watchOff)) && c != 0) = false := by
      rw [← Bool.not_eq_true]
      simpa [windlass] using hwatch
    rw [hpass]
    exact if_neg hwatch

/-- A known code is judged by its channel and its source, then by the checks of its kind. -/
theorem State.judge_of_known {d : DriveCommand} {k : CmdCode} (hk : cmdOf d.code = some k) (s : State) (c : ChanId)
    (src : CmdSource) : s.judge c src d =
      (held ((decide (k = .watchOn) || decide (k = .watchOff)) && c != 0) .badCode).or
        ((held (src.deck && k.zoneOnly) .badSource).or (s.checkKnown c src k d)) := by
  rw [State.judge, checkCode_of_known hk, hk]
  exact Option.or_assoc

theorem State.checkKnown_of_other {k : CmdCode} (hmotion : k.motion = none) (s : State) (c : ChanId) (src : CmdSource)
    (d : DriveCommand) : s.checkKnown c src k d =
      (held (!k.acceptedIn (s.chan c).state || (decide (k = .enable) && (s.driveSettings c).isNone)) .badState).or
        (held ((decide (k = .enable) || decide (k = .clearTrip)) && s.esl) .eslActive) := by
  rw [State.checkKnown, hmotion]
  dsimp only
  rw [State.checkOther, held_or, CmdCode.beq_eq, CmdCode.beq_eq]
  rfl

/-- A limit of a motion command's fields is exceeded (Table 7-6, check 5). -/
def rangeExceeded (set : Option DriveSettings) (m : MotionCode) (d : DriveCommand) : Bool :=
  decide (d.speed < 10) || decide (100 < d.speed) || decide (600 < d.runLimit)
    || (decide (m = .goto) && set.any fun k => decide (d.target < k.travelMin) || decide (k.travelMax < d.target))

theorem checkRange_eq (set : Option DriveSettings) (m : MotionCode) (d : DriveCommand) :
    checkRange set m d = held (rangeExceeded set m d) .range := by
  rw [checkRange, held]
  refine if_congr ?_ rfl rfl
  simp [rangeExceeded, or_assoc]

/-- The end toward which a motion would start (Table 7-6, check 11). -/
def State.atEnd (s : State) (c : ChanId) (e : Dir) : Bool :=
  (s.chan c).endActive e || (s.driveSettings c).any fun k => k.atLimit e (s.chan c).position

theorem checkMotion_eq (src motionSrc : CmdSource) (m : MotionCode) (dir : Option Dir) (x : Motion) :
    checkMotion src motionSrc m dir x = (held (src != motionSrc) .sourceBusy).or
      ((held (dir.any fun e => e != x.dir) .reverse).or (held (decide (m ≠ x.code)) .badState)) := by
  rw [checkMotion, held_or, held_or, held]
  simp only [bne_iff_ne, decide_eq_true_eq]

/-- The checks of a motion command on a moving channel, then those of its direction. -/
theorem State.checkStart_of_moving {s : State} {c : ChanId} {x : Motion} (hx : (s.chan c).motion = some x)
    (hne : (s.chan c).state ≠ .ready) (src : CmdSource) (m : MotionCode) (d : DriveCommand) :
    s.checkStart c src m d =
      (held (src != (s.chan c).source) .sourceBusy).or
        ((held ((m.direction d.target (s.chan c).position).any fun e => e != x.dir) .reverse).or
          ((held (decide (m ≠ x.code)) .badState).or
            (held ((m.direction d.target (s.chan c).position).any fun e => !s.guardsMet c e) .interlock))) := by
  rw [State.checkStart, hx]
  dsimp only
  rw [checkMotion_eq, Option.or_assoc, Option.or_assoc]
  cases m.direction d.target (s.chan c).position with
  | none => rfl
  | some e =>
    have hend : checkEnd (s.driveSettings c) (s.chan c) e = none := if_neg fun h => hne h.1
    dsimp only
    rw [hend, Option.none_or, Option.any_some, Option.any_some]
    cases s.guardsMet c e <;> rfl

theorem State.checkStart_of_ready {s : State} {c : ChanId} (hx : (s.chan c).motion = none)
    (hready : (s.chan c).state = .ready) (src : CmdSource) (m : MotionCode) (d : DriveCommand) :
    s.checkStart c src m d =
      (held ((m.direction d.target (s.chan c).position).any (s.atEnd c)) .atEnd).or
        (held ((m.direction d.target (s.chan c).position).any fun e => !s.guardsMet c e) .interlock) := by
  rw [State.checkStart, hx]
  dsimp only
  rw [Option.none_or]
  cases m.direction d.target (s.chan c).position with
  | none => rfl
  | some e =>
    have hend : checkEnd (s.driveSettings c) (s.chan c) e = held (s.atEnd c e) .atEnd := by
      rw [checkEnd, held]
      exact if_congr (and_iff_right hready) rfl rfl
    dsimp only
    rw [hend, Option.any_some, Option.any_some]
    cases s.guardsMet c e <;> rfl

/-- A driven channel is in the state of its direction and of no other. -/
theorem ne_driveState_of_driven {st : ChanState} {e : Dir} (h : st.driven = some e) (e' : Dir) :
    (st != driveState e') = (e' != e) := by
  cases st <;> cases h <;> cases e' <;> rfl

/-- The checks of a motion command, each of which may hold or not (Table 7-6, checks 5 to 12). -/
theorem State.checkKnown_of_motion {s : State} {c : ChanId} (h : (s.chan c).Agrees (s.prot c)) {k : CmdCode}
    {m : MotionCode} (hm : k.motion = some m) (src : CmdSource) (d : DriveCommand) :
    let ch := s.chan c
    let dir := m.direction d.target ch.position
    s.checkKnown c src k d = (held (rangeExceeded (s.driveSettings c) m d) .range).or
      ((held (!(ch.state == .ready || ch.state.moving)) .badState).or
        ((held (ch.state.moving && src != ch.source) .sourceBusy).or
          ((held (ch.state.moving && dir.any fun e => ch.state != driveState e) .reverse).or
            ((held (ch.motion.any fun x => decide (m ≠ x.code)) .badState).or
              ((held (ch.state == .ready && dir.any (s.atEnd c)) .atEnd).or
                (held (dir.any fun e => !s.guardsMet c e) .interlock)))))) := by
  intro ch dir
  have haccepted : k.acceptedIn ch.state = (ch.state == .ready || ch.state.moving) := by
    cases k <;> cases hm <;> rfl
  rw [State.checkKnown, hm]
  dsimp only
  rw [checkRange_eq]
  refine congrArg _ ?_
  rw [haccepted]
  cases hmoving : ch.state.moving with
  | true =>
    obtain ⟨e, he⟩ := Option.isSome_iff_exists.mp hmoving
    obtain ⟨x, hx, hdir⟩ := h.motion_of_driven he
    have hready : ch.state ≠ .ready := by
      intro hready
      rw [hready] at hmoving
      cases hmoving
    have hreverse : (dir.any fun e => e != x.dir) = dir.any fun e => ch.state != driveState e :=
      congrArg dir.any (funext fun e' => by rw [hdir, ← ne_driveState_of_driven he])
    have hnotReady : (ch.state == .ready) = false := beq_eq_false_iff_ne.mpr hready
    rw [Bool.or_true, if_pos rfl, State.checkStart_of_moving hx hready, hreverse, hx, hnotReady]
    rfl
  | false =>
    have hnone := h.motion_of_not_moving hmoving
    by_cases hready : ch.state = .ready
    · have hisReady : (ch.state == .ready) = true := beq_iff_eq.mpr hready
      rw [hisReady, Bool.or_false, if_pos rfl, State.checkStart_of_ready hnone hready, hnone]
      rfl
    · have hnotReady : (ch.state == .ready) = false := beq_eq_false_iff_ne.mpr hready
      rw [hnotReady]
      rfl

/-! ### The checks in the words of the state -/

theorem ChanState.moving_eq (st : ChanState) : st.moving = (st == .driveOut || st == .driveIn) := by
  cases st <;> rfl

theorem DriveSettings.atLimit_eq (k : DriveSettings) (e : Dir) (position : Int) : k.atLimit e position =
    if e = .outward then decide (k.travelMax ≤ position) else decide (position ≤ k.travelMin) := by
  cases e <;> rfl

theorem State.atEnd_eq (s : State) (c : ChanId) : s.atEnd c = fun e =>
    (s.chan c).endActive e || (s.driveSettings c).any fun k =>
      if e = .outward then decide (k.travelMax ≤ (s.chan c).position) else decide ((s.chan c).position ≤ k.travelMin) := by
  funext e
  simp only [State.atEnd, DriveSettings.atLimit_eq]

theorem driveState_eq (e : Dir) : driveState e = if e = .outward then ChanState.driveOut else .driveIn := by
  cases e <;> rfl

/-- Settles O42: the model's checks hold in the order of the list; those that a code does not have never hold. -/
theorem checksInOrder : Obligations.ChecksInOrder := by
  intro c src d s hsound
  obtain ⟨hrecords, -⟩ := s.driveSound_iff.mp hsound
  show s.judge c src d = firstHeld _
  cases hcmd : cmdOf d.code with
  | none =>
    rw [firstHeld_cons, unknown_of_cmdOf_none hcmd, State.judge, checkCode, hcmd]
    rfl
  | some k =>
    rw [s.judge_of_known hcmd, code_of_cmdOf hcmd]
    simp only [firstHeld_cons, firstHeld_nil, CmdCode.code_beq, CmdCode.known, CmdCode.zoneOnly_eq, CmdSource.deck]
    cases k with
    | enable | disable | stop | clearTrip | watchOn | watchOff =>
      rw [State.checkKnown_of_other rfl]
      simp [CmdCode.acceptedIn, held_false]
    | moveOut | moveIn | goto =>
      rw [State.checkKnown_of_motion (hrecords c) rfl, ChanState.moving_eq, State.atEnd_eq]
      cases (s.chan c).motion with
      | none => simp [held_false, rangeExceeded, driveState_eq, MotionCode.direction]
      | some x => cases hx : x.code <;> simp [held_false, rangeExceeded, driveState_eq, MotionCode.direction, hx]

end Sys2Proof.Machine
end

section
/-! Motion commands accepted in READY (O45). -/

namespace Sys2Proof.Machine

/-! ### What the checks of a motion command leave (Table 7-6) -/

theorem State.command_of_motion {s : State} {c : ChanId} {src : CmdSource} {d : DriveCommand} {k : CmdCode} {m : MotionCode}
    (hm : k.motion = some m) (hcode : d.code = k.code) (hjudge : s.judge c src d = none) :
    s.command c src d = s.applyMotion c src m d := by
  rw [State.command_of_accepted hjudge, State.applyCommand, hcode, cmdOf_code]
  cases k <;> cases hm <;> rfl

theorem State.checkStart_of_judge {s : State} {c : ChanId} {src : CmdSource} {d : DriveCommand} {k : CmdCode}
    {m : MotionCode} (hm : k.motion = some m) (hcode : d.code = k.code) (hjudge : s.judge c src d = none) :
    k.acceptedIn (s.chan c).state = true ∧ s.checkStart c src m d = none := by
  have hcmd : cmdOf d.code = some k := by rw [hcode, cmdOf_code]
  have hknown := State.checkKnown_of_judge hjudge hcmd
  rw [State.checkKnown, hm] at hknown
  obtain ⟨-, hstart⟩ := Option.or_eq_none_iff.mp hknown
  split at hstart
  next haccepted => exact ⟨haccepted, hstart⟩
  next => cases hstart

/-- A motion that may start has every guard of its direction met (R151). -/
theorem State.guardsMet_of_checkStart {s : State} {c : ChanId} {src : CmdSource} {d : DriveCommand} {m : MotionCode}
    {dir : Dir} (h : s.checkStart c src m d = none) (hdir : m.direction d.target (s.chan c).position = some dir) :
    s.guardsMet c dir = true := by
  obtain ⟨-, hstart⟩ := Option.or_eq_none_iff.mp h
  rw [hdir] at hstart
  obtain ⟨-, hguards⟩ := Option.or_eq_none_iff.mp hstart
  split at hguards
  next hmet => exact hmet
  next => cases hguards

/-! ### The start (R129) -/

/-- The protection of a channel whose watch a motion command has set to OFF (R156). -/
def Protection.watchOffFor (k : Protection) (c : ChanId) : Protection :=
  { k with watch := if c = windlass then .off else k.watch }

/-- The state in which a channel has started a motion, before the guards are judged. -/
def State.started (s : State) (c : ChanId) (src : CmdSource) (set : DriveSettings) (m : Motion) : State :=
  { s with
    chans := update s.chans c fun ch => ch.start src m s.now
    prots := update s.prots c fun k => (k.watchOffFor c).start set src m (s.chan c).current s.now }

theorem State.applyMotion_of_ready {s : State} {c : ChanId} {d : DriveCommand} {m : MotionCode} {dir : Dir}
    {set : DriveSettings} (hready : (s.chan c).state = .ready) (hset : s.driveSettings c = some set)
    (hdir : m.direction d.target (s.chan c).position = some dir) (src : CmdSource) :
    s.applyMotion c src m d = (s.started c src set (newMotion set m dir d s.now)).reevaluate := by
  have hmoving : ¬ (s.chan c).state.moving = true := by rw [hready]; decide
  have hset' : (s.watchOffByMotion c).driveSettings c = some set := hset
  have hstart : (s.watchOffByMotion c).startMotion c src m dir d =
      (s.started c src set (newMotion set m dir d s.now)).reevaluate := by
    rw [State.startMotion, hset']
    exact congrArg (fun ps => State.reevaluate { s.started c src set (newMotion set m dir d s.now) with prots := ps })
      (update_update s.prots c (Protection.watchOffFor · c)
        (·.start set src (newMotion set m dir d s.now) (s.chan c).current s.now))
  rw [State.applyMotion, hdir]
  exact (if_neg hmoving).trans hstart

/-- A condition that is not about the channel's own stillness reads as before its start. -/
theorem State.started_condMet (s : State) (c : ChanId) (src : CmdSource) (set : DriveSettings) (m : Motion)
    {k : Condition} (hk : k ≠ .still c) : (s.started c src set m).condMet k = s.condMet k := by
  have hchan (e : ChanId) : (s.started c src set m).chan e = if c = e then (s.chan e).start src m s.now else s.chan e :=
    look_update _ _ _ _
  cases k with
  | atEnd e d =>
    show ((s.started c src set m).chan e).endActive d = (s.chan e).endActive d
    rw [hchan]
    split
    · cases d <;> rfl
    · rfl
  | still e =>
    have hne : c ≠ e := fun h => hk (congrArg Condition.still h.symm)
    show ((s.started c src set m).chan e).state.still = (s.chan e).state.still
    rw [hchan, if_neg hne]
  | value p byte mask expected => rfl

/-- A channel that starts with its guards met keeps its motion, if none of them names its own stillness. -/
theorem State.started_guarded {s : State} {c : ChanId} {m : Motion} (hmet : s.guardsMet c m.dir = true)
    (hown : ∀ g ∈ s.guardsOf c m.dir, g.condition ≠ .still c) (src : CmdSource) (set : DriveSettings) :
    ¬ (s.started c src set m).unguarded c = true := by
  have hstate : ((s.started c src set m).chan c).state = driveState m.dir :=
    congrArg Channel.state (look_update_self s.chans c _)
  have hmet' : (s.started c src set m).guardsMet c m.dir = true := by
    rw [State.guardsMet, List.all_eq_true] at hmet ⊢
    exact fun g hg => (s.started_condMet c src set m (hown g hg)).trans (hmet g hg)
  rw [State.unguarded, hstate, driveState_driven]
  dsimp only
  rw [hmet']
  exact Bool.false_ne_true

/-- The duty of a motion as it starts: the speed at once without a ramp (R133). -/
theorem newMotion_dutyAt (set : DriveSettings) (m : MotionCode) (dir : Dir) (d : DriveCommand) (now : Stamp) :
    (newMotion set m dir d now).dutyAt now = if set.rampTime % 4294967296 = 0 then d.speed else 0 := by
  have hramp : elapsed (newMotion set m dir d now).rampEnd now = set.rampTime % 4294967296 := by
    show (now + BitVec.ofNat 32 set.rampTime - now).toNat = _
    rw [BitVec.add_comm, BitVec.add_sub_cancel, BitVec.toNat_ofNat]
  have hran : elapsed now now = 0 := by rw [elapsed, BitVec.sub_self]; rfl
  show (if elapsed now now < elapsed (newMotion set m dir d now).rampEnd now then
    d.speed * elapsed now now / elapsed (newMotion set m dir d now).rampEnd now else d.speed) = _
  rw [hramp, hran, Nat.mul_zero, Nat.zero_div]
  by_cases hzero : set.rampTime % 4294967296 = 0
  · rw [if_pos hzero, hzero]
    rfl
  · rw [if_neg hzero, if_pos (Nat.pos_of_ne_zero hzero)]

/-- Settles O45: the guards that the checks found met stay met for the channel itself, so the judgement stops others
alone. -/
theorem moveStartsMotion : Obligations.MoveStartsMotion := by
  intro k m c src d dir set s hm hcode hsound hready hjudge hset hdir hown t
  let u := s.started c src set (newMotion set m dir d s.now)
  have ht : t = u.reevaluate :=
    (State.command_of_motion hm hcode hjudge).trans (State.applyMotion_of_ready hready hset hdir src)
  obtain ⟨-, hstart⟩ := State.checkStart_of_judge hm hcode hjudge
  have hguarded : ¬ u.unguarded c = true :=
    State.started_guarded (m := newMotion set m dir d s.now) (State.guardsMet_of_checkStart hstart hdir) hown src set
  have hchan : t.chan c = (s.chan c).start src (newMotion set m dir d s.now) s.now := by
    rw [ht, u.reevaluate_chan, if_neg hguarded]
    exact look_update_self _ _ _
  have hprot : t.prot c =
      ((s.prot c).watchOffFor c).start set src (newMotion set m dir d s.now) (s.chan c).current s.now := by
    rw [ht, u.reevaluate_prot, if_neg hguarded]
    exact look_update_self _ _ _
  refine ⟨?_, ?_, ?_, ?_, ?_, ?_, ?_, ?_, ?_, fun e he => ?_, fun id f hzone hd htakes => ?_⟩
  · rw [hchan, Channel.start, newMotion_dutyAt]
    cases dir <;> rfl
  · rw [hprot, Protection.start]
    simp only [CmdSource.deck_eq_true]
    rfl
  · rw [ht]
    exact u.reevaluate_guards
  · rw [ht]; rfl
  · rw [ht]; rfl
  · rw [ht]; exact ⟨rfl, rfl⟩
  · rw [ht]; exact ⟨rfl, rfl, rfl⟩
  · rw [ht]; exact ⟨rfl, rfl, rfl⟩
  · rw [ht]; rfl
  · have hother : u.chan e = s.chan e := look_update_of_ne _ _ he.symm
    rw [ht, u.reevaluate_chan, hother]
    split
    · exact .inr ⟨rfl, rfl⟩
    · exact .inl rfl
  · subst hzone hd
    exact State.exec_zoneCommand_accepted htakes hjudge

end Sys2Proof.Machine
end

section
/-! Motion commands accepted while moving or at the target (O46). -/

namespace Sys2Proof.Machine

/-! ### A refresh (R130) -/

theorem State.applyMotion_of_moving {s : State} {c : ChanId} {d : DriveCommand} {m : MotionCode} {dir : Dir}
    (hmoving : (s.chan c).state.moving = true) (hdir : m.direction d.target (s.chan c).position = some dir)
    (src : CmdSource) : s.applyMotion c src m d = (s.watchOffByMotion c).refreshMotion c src d := by
  rw [State.applyMotion, hdir]
  exact if_pos hmoving

/-- What a refresh of a motion changes, the watch of D0 with it. -/
theorem State.refreshMotion_of_motion {s : State} {c : ChanId} {x : Motion} {set : DriveSettings}
    (hx : (s.chan c).motion = some x) (hset : s.driveSettings c = some set) (src : CmdSource) (d : DriveCommand) :
    (s.watchOffByMotion c).refreshMotion c src d =
      { s with
        chans := update s.chans c fun ch =>
          { ch with motion := some (x.refresh d), duty := (x.refresh d).dutyAt s.status.stamp }
        prots := update s.prots c fun p =>
          { p with
            watch := if c = 0 then .off else p.watch
            holdExpiry := if src = .deck0 ∨ src = .deck1 then some (later s.status.stamp set.holdTime)
              else p.holdExpiry } } := by
  have hhold : s.holdTime c = set.holdTime := by rw [State.holdTime, hset]; rfl
  have hchans : update s.chans c (·.refresh d s.now) = update s.chans c fun ch =>
      { ch with motion := some (x.refresh d), duty := (x.refresh d).dutyAt s.status.stamp } :=
    update_congr _ _ (Channel.refresh_eq hx d s.now)
  have hprots : update (update s.prots c (Protection.watchOffFor · c)) c (·.hold src (later s.now (s.holdTime c))) =
      update s.prots c fun p =>
        { p with
          watch := if c = 0 then .off else p.watch
          holdExpiry := if src = .deck0 ∨ src = .deck1 then some (later s.status.stamp set.holdTime)
            else p.holdExpiry } := by
    rw [update_update, hhold]
    refine update_congr _ _ ?_
    simp only [Protection.hold, Protection.watchOffFor, CmdSource.deck_eq_true]
    rfl
  show { s with
    chans := update s.chans c (·.refresh d s.now)
    prots := update (update s.prots c (Protection.watchOffFor · c)) c (·.hold src (later s.now (s.holdTime c))) } = _
  rw [hchans, hprots]

/-! ### A GOTO at its target (R131) -/

/-- From `s` to `t` nothing but one channel, its protection and the status has changed. -/
structure OnlyChannel (s t : State) (c : ChanId) : Prop where
  others : ∀ e, e ≠ c → t.chan e = s.chan e ∧ t.prot e = s.prot e
  guards : t.guards = s.guards
  esl : t.esl = s.esl
  path : t.path = s.path
  links : sameLinks s t
  receive : sameReceive s t
  plan : samePlan s t
  poll : t.poll = s.poll

theorem OnlyChannel.of_update (s : State) (c : ChanId) (f : Channel → Channel) (g : Protection → Protection)
    (status : StatusUnit) :
    OnlyChannel s { s with chans := update s.chans c f, prots := update s.prots c g, status := status } c :=
  ⟨fun _ he => ⟨look_update_of_ne _ _ he.symm, look_update_of_ne _ _ he.symm⟩, rfl, rfl, rfl, ⟨rfl, rfl⟩,
    ⟨rfl, rfl, rfl⟩, ⟨rfl, rfl, rfl⟩, rfl⟩

theorem MotionCode.direction_self (position : Int) : MotionCode.goto.direction position position = none := by
  simp [MotionCode.direction]

theorem State.applyMotion_atTarget {s : State} {c : ChanId} {d : DriveCommand} (htarget : d.target = (s.chan c).position)
    (src : CmdSource) : s.applyMotion c src .goto d = (s.watchOffByMotion c).atTarget c := by
  rw [State.applyMotion, htarget, MotionCode.direction_self]

/-- A moving channel at its target stops, its watch OFF. -/
theorem State.atTarget_of_moving {s : State} {c : ChanId} (h : s.GuardsHeld) (hmoving : (s.chan c).state.moving = true) :
    (s.watchOffByMotion c).atTarget c =
      { s with
        chans := update s.chans c (·.stop .atTarget (later s.now (s.stopDwell c)))
        prots := update s.prots c fun k => (k.watchOffFor c).endMotion } := by
  have hguards := (s.watchOffByMotion_steady c).guardsHeld h
  have hstop : (s.watchOffByMotion c).stopMotion c .atTarget = (s.watchOffByMotion c).stopped c .atTarget :=
    State.stopMotion_of_guarded hguards hmoving .atTarget
  rw [State.atTarget]
  refine (if_pos hmoving).trans (hstop.trans ?_)
  exact congrArg (fun ps => { s.stopped c .atTarget with prots := ps })
    (update_update s.prots c (Protection.watchOffFor · c) Protection.endMotion)

/-- One that does not move only records it. -/
theorem State.atTarget_of_not_moving {s : State} {c : ChanId} (hmoving : ¬ (s.chan c).state.moving = true) :
    (s.watchOffByMotion c).atTarget c =
      { s with
        chans := update s.chans c fun ch => { ch with stopReason := .atTarget }
        prots := update s.prots c (Protection.watchOffFor · c) } := if_neg hmoving

/-- Settles O46: a refresh keeps the motion in its direction; at the target the direction is none. -/
theorem moveWhileMovingOrAtTarget : Obligations.MoveWhileMovingOrAtTarget := by
  constructor
  · intro k m c src d dir x set s hm hcode hx hstate hjudge hdir hset x' t
    have ht : s.command c src d = t :=
      (State.command_of_motion hm hcode hjudge).trans
        ((State.applyMotion_of_moving (ChanState.moving_eq_true.mpr hstate) hdir src).trans
          (State.refreshMotion_of_motion hx hset src d))
    refine ⟨ht, fun id f hzone hd htakes => ?_⟩
    subst hzone hd
    rw [← ht]
    exact State.exec_zoneCommand_accepted htakes hjudge
  · intro c src d s hcode hsound hjudge htarget t
    have ht : t = (s.watchOffByMotion c).atTarget c :=
      (State.command_of_motion (k := .goto) rfl hcode hjudge).trans (State.applyMotion_atTarget htarget src)
    have hzone (id : TransferId) (f : CommandFields) (hsrc : src = .zone) (hd : d = zoneFields .goto f)
        (htakes : s.takesBlock c .goto id f = true) : ∃ y, commandTransfer s.plan c 5 id f = some y
          ∧ exec (.goto c id f) s = .next (t.withEntry (blockEntry y)) := by
      subst hsrc hd
      exact State.exec_zoneCommand_accepted htakes hjudge
    by_cases hmoving : (s.chan c).state.moving = true
    · rw [State.atTarget_of_moving (State.guardsHeld_of_sound hsound) hmoving] at ht
      have hchan : t.chan c = (s.chan c).stop .atTarget (later s.now (s.stopDwell c)) := by
        rw [ht]; exact look_update_self _ _ _
      have hprot : t.prot c = ((s.prot c).watchOffFor c).endMotion := by rw [ht]; exact look_update_self _ _ _
      obtain ⟨hothers, hguards, hesl, hpath, hlinks, hreceive, hplan, hpoll⟩ : OnlyChannel s t c := by
        rw [ht]; exact .of_update s c _ _ s.status
      have hstatus : t.status = s.status := by rw [ht]
      rw [hchan, hprot]
      refine ⟨rfl, rfl, fun hready => ?_, fun _ => ⟨rfl, rfl, rfl, rfl, rfl⟩, fun hc => if_pos hc, hothers, hguards, hesl,
        hstatus, hpath, hlinks, hreceive, hplan, hpoll, hzone⟩
      rw [hready] at hmoving
      cases hmoving
    · rw [State.atTarget_of_not_moving hmoving] at ht
      have hchan : t.chan c = { s.chan c with stopReason := .atTarget } := by rw [ht]; exact look_update_self _ _ _
      have hprot : t.prot c = (s.prot c).watchOffFor c := by rw [ht]; exact look_update_self _ _ _
      obtain ⟨hothers, hguards, hesl, hpath, hlinks, hreceive, hplan, hpoll⟩ : OnlyChannel s t c := by
        rw [ht]; exact .of_update s c _ _ s.status
      have hstatus : t.status = s.status := by rw [ht]
      rw [hchan, hprot]
      exact ⟨rfl, rfl, fun _ => rfl, fun hstate => absurd (ChanState.moving_eq_true.mpr hstate) hmoving,
        fun hc => if_pos hc, hothers, hguards, hesl, hstatus, hpath, hlinks, hreceive, hplan, hpoll, hzone⟩

end Sys2Proof.Machine
end

section
/-! Pulses (O51): those that a channel counts in motion, and those that the anchor watch counts at rest. -/

namespace Sys2Proof.Machine

/-! ### A pulse in motion (R134, R136, R143) -/

theorem State.counting_of_driven {s : State} {c : ChanId} {dir : Dir} (h : (s.chan c).state.driven = some dir) :
    s.counting c = dir := by
  rw [State.counting, h]

theorem State.counted_chan (s : State) (c : ChanId) :
    (s.counted c).chan c = { s.chan c with position := countPulse (s.counting c) (s.chan c).position } :=
  look_update_self _ _ _

theorem State.counted_onlyChannel (s : State) (c : ChanId) : OnlyChannel s (s.counted c) c :=
  .of_update s c _ _ s.status

theorem OnlyChannel.refl (s : State) (c : ChanId) : OnlyChannel s s c :=
  ⟨fun _ _ => ⟨rfl, rfl⟩, rfl, rfl, rfl, ⟨rfl, rfl⟩, ⟨rfl, rfl, rfl⟩, ⟨rfl, rfl, rfl⟩, rfl⟩

theorem OnlyChannel.modProt (s : State) (c : ChanId) (g : Protection → Protection) : OnlyChannel s (s.modProt c g) c :=
  ⟨fun _ he => ⟨rfl, look_update_of_ne _ _ he.symm⟩, rfl, rfl, rfl, ⟨rfl, rfl⟩, ⟨rfl, rfl, rfl⟩, ⟨rfl, rfl, rfl⟩, rfl⟩

theorem OnlyChannel.trans {s t u : State} {c : ChanId} (h : OnlyChannel s t c) (k : OnlyChannel t u c) :
    OnlyChannel s u c where
  others e he := by
    obtain ⟨hchan, hprot⟩ := h.others e he
    obtain ⟨kchan, kprot⟩ := k.others e he
    exact ⟨kchan.trans hchan, kprot.trans hprot⟩
  guards := k.guards.trans h.guards
  esl := k.esl.trans h.esl
  path := k.path.trans h.path
  links := ⟨k.links.1.trans h.links.1, k.links.2.trans h.links.2⟩
  receive := ⟨k.receive.1.trans h.receive.1, k.receive.2.1.trans h.receive.2.1, k.receive.2.2.trans h.receive.2.2⟩
  plan := ⟨k.plan.1.trans h.plan.1, k.plan.2.1.trans h.plan.2.1, k.plan.2.2.trans h.plan.2.2⟩
  poll := k.poll.trans h.poll

/-- A stop of a motion that breaks no guard touches no other channel. -/
theorem State.stopMotion_onlyChannel {s : State} (h : s.GuardsHeld) (c : ChanId) (r : StopReason) :
    OnlyChannel s (s.stopMotion c r) c := by
  by_cases hm : (s.chan c).state.moving = true
  · rw [State.stopMotion_of_guarded h hm]
    exact .of_update s c (·.stop r (later s.now (s.stopDwell c))) Protection.endMotion
      ((s.stopped c r).raiseIf r.raises .stopped).status
  · rw [State.stopMotion_of_not_moving hm]
    exact .refl s c

theorem State.stopIf_onlyChannel {s : State} (h : s.GuardsHeld) (c : ChanId) (r : Option StopReason) :
    OnlyChannel s (s.stopIf c r) c := by
  cases r with
  | none => exact .refl s c
  | some r => exact State.stopMotion_onlyChannel h c r

/-- A motion that stops with its guards held: the channel, and the cause that its reason raises. -/
theorem State.stopMotion_chan {s : State} (h : s.GuardsHeld) {c : ChanId} (hm : (s.chan c).state.moving = true)
    (r : StopReason) : (s.stopMotion c r).chan c = (s.chan c).stop r (later s.now (s.stopDwell c)) := by
  rw [State.stopMotion_of_guarded h hm]
  exact look_update_self _ _ _

theorem State.stopMotion_status {s : State} (h : s.GuardsHeld) {c : ChanId} (hm : (s.chan c).state.moving = true)
    (r : StopReason) : (s.stopMotion c r).status = (s.raiseIf r.raises .stopped).status := by
  rw [State.stopMotion_of_guarded h hm]
  rfl

theorem State.stopIf_position {s : State} (h : s.GuardsHeld) {c : ChanId} (hm : (s.chan c).state.moving = true)
    (r : Option StopReason) : ((s.stopIf c r).chan c).position = (s.chan c).position := by
  cases r with
  | none => rfl
  | some r =>
    show ((s.stopMotion c r).chan c).position = _
    rw [State.stopMotion_chan h hm]
    rfl

theorem State.caused_of_status {s t : State} (h : t.status = s.status) (k : Cause) : t.caused k = s.caused k := by
  rw [State.caused, State.caused, State.hasCause, State.hasCause, h]

/-- What ends a motion in a direction at a position (R136). -/
theorem State.arrival_of_driven {s : State} {c : ChanId} {dir : Dir} (h : (s.chan c).state.driven = some dir) :
    s.arrival c =
      if ((s.chan c).motion.bind (·.target)).any fun t => hasReached dir (s.chan c).position t then some .atTarget
      else if (s.driveSettings c).any fun k => k.atLimit dir (s.chan c).position then some .softLimit
      else none := by
  rw [State.arrival, h]

theorem State.pulse_of_driven {s : State} {c : ChanId} {dir : Dir} (h : (s.chan c).state.driven = some dir) :
    s.pulse c = (s.counted c).stopIf c ((s.counted c).arrival c) := by
  have hmoving : (s.chan c).state.moving = true := by rw [ChanState.moving, h]; rfl
  rw [State.pulse_eq, if_pos hmoving]

theorem State.pulse_of_arrival {s : State} {c : ChanId} {dir : Dir} (h : (s.chan c).state.driven = some dir)
    {r : StopReason} (harrival : (s.counted c).arrival c = some r) : s.pulse c = (s.counted c).stopMotion c r := by
  rw [State.pulse_of_driven h, harrival]
  rfl

theorem State.pulse_of_no_arrival {s : State} {c : ChanId} {dir : Dir} (h : (s.chan c).state.driven = some dir)
    (harrival : (s.counted c).arrival c = none) : s.pulse c = s.counted c := by
  rw [State.pulse_of_driven h, harrival]
  rfl

/-- The state after the count, by the position that it gives. -/
theorem State.counted_of_position {s : State} {c : ChanId} {pos : Int}
    (hpos : countPulse (s.counting c) (s.chan c).position = pos) : s.counted c =
      { s with
        chans := update s.chans c fun ch => { ch with position := pos }
        prots := update s.prots c fun k =>
          { k with stallExpiry := k.stallExpiry.map fun _ => later s.status.stamp (s.stallTime c) } } := by
  have hchans : update s.chans c (fun ch => { ch with position := countPulse (s.counting c) ch.position }) =
      update s.chans c fun ch => { ch with position := pos } :=
    update_congr _ _ (congrArg (fun p => { s.chan c with position := p }) hpos)
  rw [State.counted, hchans]
  rfl

/-! ### A pulse at rest (R134, R157) -/

/-- A channel at rest counts in its rest direction (R134). -/
theorem State.counting_at_rest {s : State} {c : ChanId} {set : DriveSettings} (hset : s.driveSettings c = some set)
    (h : (s.chan c).state = .safe ∨ (s.chan c).state = .ready ∨ (s.chan c).state = .tripped) :
    s.counting c = set.restDir := by
  rw [State.counting, hset]
  rcases h with h | h | h <;> rw [h] <;> rfl

theorem State.submitFetch_eq (s : State) (l : LinkId) (i : SlotId) (n : Nat) :
    s.submitFetch l i n = { s with path := (s.submitFetch l i n).path } := by
  unfold State.submitFetch
  split <;> rfl

/-- A submission depends on the plan and the memory path alone. -/
theorem State.submitFetch_path_congr {s t : State} (hplan : t.plan = s.plan) (hpath : t.path = s.path) (l : LinkId)
    (i : SlotId) (n : Nat) : (t.submitFetch l i n).path = (s.submitFetch l i n).path := by
  have hsubmit (r : Request) : (t.submit r).path = (s.submit r).path :=
    congrArg (fun p : Path => { p with staged := p.staged ++ [r] }) hpath
  unfold State.submitFetch
  rw [hplan]
  split
  · exact hpath
  · exact hsubmit _

/-- An alarm request does not depend on the channels, their protection or the status, and touches of them only its channel's
count of merged requests (R83). -/
theorem State.alarmRequest_of_parts (s : State) {chans : Vector Channel 3} (prots : Vector Protection 3)
    (status : StatusUnit) {c : ChanId} (hmerged : (look chans c).alarmsMerged = (s.chan c).alarmsMerged) :
    State.alarmRequest { s with chans := chans, prots := prots, status := status } c =
      { s with
        senders := (s.alarmRequest c).senders
        path := (s.alarmRequest c).path
        chans := update chans c fun ch => { ch with alarmsMerged := ((s.alarmRequest c).chan c).alarmsMerged }
        prots := prots
        status := status } := by
  let t : State := { s with chans := chans, prots := prots, status := status }
  have hkeep : (update chans c fun k => { k with alarmsMerged := (s.chan c).alarmsMerged }) = chans :=
    update_eq_self _ _ (by rw [← hmerged])
  have hset : t.driveSettings c = s.driveSettings c := rfl
  have haccepted (l : LinkId) (i : SlotId) : t.alarmAccepted l i = s.alarmAccepted l i := rfl
  show t.alarmRequest c = _
  rw [State.alarmRequest, State.alarmRequest, hset]
  cases (s.driveSettings c).bind (·.alarm) with
  | none => exact congrArg (fun v => { t with chans := v }) hkeep.symm
  | some a =>
    obtain ⟨l, i⟩ := a
    dsimp only
    rw [haccepted]
    split
    · let opens (k : SendCtl) : SendCtl := k.acceptFetch i .alarm
      let submitted : Path := ((s.modSender l opens).submitFetch l i (s.sender l).fetchSerial).path
      have hpath : ((t.modSender l opens).submitFetch l i (s.sender l).fetchSerial).path = submitted :=
        State.submitFetch_path_congr (s := s.modSender l opens) (t := t.modSender l opens) rfl rfl _ _ _
      rw [State.submitFetch_eq (s.modSender l _), State.submitFetch_eq (t.modSender l _)]
      refine (congrArg (fun p => { t.modSender l opens with path := p }) hpath).trans ?_
      exact congrArg (fun v => { t.modSender l opens with path := submitted, chans := v }) hkeep.symm
    · rw [State.bump_alarmsMerged, State.bump_alarmsMerged]
      have hcount : ((s.modChan c fun ch => { ch with alarmsMerged := satInc ch.alarmsMerged }).chan c).alarmsMerged =
          satInc (look chans c).alarmsMerged := by
        rw [hmerged]
        exact congrArg Channel.alarmsMerged (look_update_self s.chans c _)
      refine congrArg (fun v => { t with chans := v }) (update_congr chans c ?_)
      rw [hcount]

/-- The state in which the anchor watch has counted a pulse at rest (R157). -/
def State.crept (s : State) : State := (s.counted 0).modProt 0 Protection.creeps

/-- The state in which the anchor watch has been exceeded, before its alarm request. -/
def State.watchAlarmed (s : State) : State := (s.crept.modProt 0 fun k => { k with watch := .alarmed }).raise .watch

/-- A pulse on D0 at rest (R134, R157). -/
theorem State.pulse_at_rest {s : State}
    (h : (s.chan 0).state = .safe ∨ (s.chan 0).state = .ready ∨ (s.chan 0).state = .tripped) :
    s.pulse 0 = if s.crept.watchExceeded 0 then s.watchAlarmed.alarmRequest 0 else s.crept := by
  have hmoving : ¬ (s.chan 0).state.moving = true := by rcases h with h | h | h <;> rw [h] <;> decide
  have hstopping : (s.chan 0).state ≠ .stopping := by rcases h with h | h | h <;> rw [h] <;> decide
  rw [State.pulse_eq, if_neg hmoving, if_neg hstopping]
  exact if_pos rfl

theorem State.crept_prot {s : State} (hwatch : (s.prot 0).watch = .on) :
    (s.crept.prot 0).watch = .on ∧ (s.crept.prot 0).creep = satInc (s.prot 0).creep := by
  have hprot : s.crept.prot 0 = ((s.prot 0).pulsed (later s.now (s.stallTime 0))).creeps := by
    refine (look_update_self _ _ _).trans (congrArg Protection.creeps ?_)
    exact look_update_self _ _ _
  have hon : ((s.prot 0).pulsed (later s.now (s.stallTime 0))).watch = .on := hwatch
  rw [hprot, Protection.creeps, hon]
  exact ⟨rfl, rfl⟩

theorem State.crept_onlyChannel (s : State) : OnlyChannel s s.crept 0 :=
  (s.counted_onlyChannel 0).trans (.modProt _ 0 Protection.creeps)

theorem State.crept_exceeded {s : State} {set : DriveSettings} (hset : s.driveSettings 0 = some set)
    (hwatch : (s.prot 0).watch = .on) :
    s.crept.watchExceeded 0 = decide (set.watchLimit < (satInc (s.prot 0).creep).toNat) := by
  obtain ⟨hon, hcreep⟩ := State.crept_prot hwatch
  have hset' : s.crept.driveSettings 0 = some set := hset
  rw [State.watchExceeded, hon, hset', hcreep]
  rfl

theorem State.crept_chan {s : State} {set : DriveSettings} (hset : s.driveSettings 0 = some set)
    (h : (s.chan 0).state = .safe ∨ (s.chan 0).state = .ready ∨ (s.chan 0).state = .tripped) :
    s.crept.chan 0 = { s.chan 0 with position := countPulse set.restDir (s.chan 0).position } := by
  rw [← State.counting_at_rest hset h]
  exact s.counted_chan 0

/-- The alarm request of an exceeded watch is the one that the state before the pulse would make. -/
theorem State.watchAlarmed_alarmRequest (s : State) : s.watchAlarmed.alarmRequest 0 =
    { s with
      senders := (s.alarmRequest 0).senders
      path := (s.alarmRequest 0).path
      chans := update s.crept.chans 0 fun ch => { ch with alarmsMerged := ((s.alarmRequest 0).chan 0).alarmsMerged }
      prots := s.watchAlarmed.prots
      status := s.watchAlarmed.status } := by
  refine s.alarmRequest_of_parts s.watchAlarmed.prots s.watchAlarmed.status (chans := s.crept.chans) ?_
  show ((s.counted 0).chan 0).alarmsMerged = _
  rw [s.counted_chan]

theorem State.watchAlarmed_prot (s : State) :
    s.watchAlarmed.prot 0 = { s.crept.prot 0 with watch := .alarmed }
      ∧ ∀ d, d ≠ 0 → s.watchAlarmed.prot d = s.crept.prot d :=
  ⟨look_update_self _ _ _, fun _ hd => look_update_of_ne _ _ hd.symm⟩

/-- Settles O51: in motion a pulse ends what the arrival says; at rest the watch of D0 counts it, and alone its alarm
request submits. -/
theorem pulsesCountDrivenAndUndriven : Obligations.PulsesCountDrivenAndUndriven := by
  constructor
  · intro c dir s hrun hsound hdriven pos past onTarget atLimit
    have hheld := (s.counted_steady c).guardsHeld (State.guardsHeld_of_sound hsound)
    have hpos : countPulse (s.counting c) (s.chan c).position = pos := by
      rw [State.counting_of_driven hdriven]
      cases dir <;> rfl
    have hchan : (s.counted c).chan c = { s.chan c with position := pos } := by rw [s.counted_chan, hpos]
    have hdriven' : ((s.counted c).chan c).state.driven = some dir := by rw [hchan]; exact hdriven
    have hmoving : ((s.counted c).chan c).state.moving = true := by rw [ChanState.moving, hdriven']; rfl
    have harrival : (s.counted c).arrival c =
        if onTarget then some .atTarget else if atLimit then some .softLimit else none := by
      rw [State.arrival_of_driven hdriven', hchan]
      cases dir <;> rfl
    have honly : OnlyChannel s (s.pulse c) c := by
      rw [State.pulse_of_driven hdriven]
      exact (s.counted_onlyChannel c).trans (State.stopIf_onlyChannel hheld c _)
    have hevent : exec (.pulse c) s = .next (s.pulse c) :=
      congrArg Host.Outcome.next (State.event_samePath hrun honly.path)
    refine ⟨s.pulse c, hevent, ?_, honly.others, honly.esl, honly.path, honly.links, honly.receive, honly.plan, honly.poll,
      honly.guards, fun htarget => ?_, fun htarget hlimit => ?_, fun htarget hlimit => ?_⟩
    · rw [State.pulse_of_driven hdriven, State.stopIf_position hheld hmoving, hchan]
    · rw [htarget] at harrival
      rw [State.pulse_of_arrival hdriven harrival, State.stopMotion_chan hheld hmoving,
        State.stopMotion_status hheld hmoving]
      exact ⟨rfl, rfl, rfl, rfl⟩
    · rw [htarget, hlimit] at harrival
      have hstatus := State.stopMotion_status hheld hmoving .softLimit
      rw [State.pulse_of_arrival hdriven harrival, State.stopMotion_chan hheld hmoving, State.caused_of_status hstatus]
      exact ⟨rfl, rfl, rfl, State.raise_caused _ _⟩
    · rw [htarget, hlimit] at harrival
      exact (State.pulse_of_no_arrival hdriven harrival).trans (State.counted_of_position hpos)
  · intro set s hrun hset hrest hwatch
    have hpulse := State.pulse_at_rest hrest
    rw [State.crept_exceeded hset hwatch] at hpulse
    obtain ⟨hon, hcreep⟩ := State.crept_prot hwatch
    have hchan := State.crept_chan hset hrest
    obtain ⟨hothers, hguards, hesl, hpath, hlinks, hreceive, hplan, hpoll⟩ := s.crept_onlyChannel
    have hexec : exec (.pulse 0) s = .next (s.pulse 0).commit :=
      congrArg Host.Outcome.next (s.event_of_running _ (State.running_inReset hrun))
    by_cases hexceeded : set.watchLimit < (satInc (s.prot 0).creep).toNat
    · rw [hpulse, if_pos (by simpa using hexceeded), s.watchAlarmed_alarmRequest] at hexec
      obtain ⟨hprot, hotherProt⟩ := s.watchAlarmed_prot
      have hcaused : s.watchAlarmed.caused .watch = true := State.raise_caused _ _
      refine ⟨_, hexec, (congrArg Protection.creep hprot).trans hcreep, fun _ => ⟨congrArg Protection.watch hprot, hcaused,
        rfl, State.commit_path_congr rfl, ?_⟩, fun h => absurd h (Nat.not_le.mpr hexceeded), fun d hd => ?_, rfl, rfl, rfl,
        ⟨rfl, rfl, rfl⟩, ⟨rfl, rfl, rfl⟩, rfl⟩
      · refine (look_update_self _ _ _).trans ?_
        exact congrArg (fun ch => { ch with alarmsMerged := ((s.alarmRequest 0).chan 0).alarmsMerged }) hchan
      · obtain ⟨hsameChan, hsameProt⟩ := hothers d hd
        exact ⟨(look_update_of_ne _ _ hd.symm).trans hsameChan, (hotherProt d hd).trans hsameProt⟩
    · rw [hpulse, if_neg (by simpa using hexceeded)] at hexec
      rw [State.commit_of_empty _ ((congrArg Path.staged hpath).trans (State.running_staged hrun))] at hexec
      exact ⟨s.crept, hexec, hcreep, fun h => absurd h hexceeded, fun _ => ⟨hon, rfl, hlinks, hpath, hchan⟩, hothers,
        hguards, hesl, hlinks.1, hreceive, hplan, hpoll⟩

end Sys2Proof.Machine
end

section
/-! End switches (O52): what the change of a level reads, the stop that it brings, and the one judgement of the guards. -/

namespace Sys2Proof.Machine

/-! ### One judgement (R152) -/

/-- Guards judged twice are judged once: the first judgement leaves none broken. -/
theorem State.reevaluate_reevaluate (s : State) : s.reevaluate.reevaluate = s.reevaluate := by
  rw [State.reevaluate_of_guarded s.reevaluate_guarded, ← s.reevaluate_guards]

/-- A judgement leaves the end switches and the position. -/
theorem State.reevaluate_reading (s : State) (c : ChanId) : (s.reevaluate.chan c).position = (s.chan c).position
    ∧ ∀ d, (s.reevaluate.chan c).endActive d = (s.chan c).endActive d := by
  refine ⟨?_, s.reevaluate_sameConditions.ends c⟩
  rw [s.reevaluate_chan]
  split <;> rfl

theorem State.reevaluate_caused_of_caused {s : State} {k : Cause} (h : s.caused k = true) :
    s.reevaluate.caused k = true := by
  rw [State.reevaluate, State.raiseIf_eq]
  split
  · exact State.raise_caused_of_caused (s := { s with guards := _, chans := _, prots := _ }) _ h
  · exact h

/-! ### The change of a level (R135, R136) -/

/-- The state in which the change of an end switch has been read and its stop made, before the guards are judged. -/
def State.switched (s : State) (c : ChanId) (which : Dir) (active : Bool) : State :=
  match s.switchReason c which active with
  | none => s.switchRead c which active
  | some r => ((s.switchRead c which active).stopped c r).raiseIf r.raises .stopped

/-- What a re-reference at an end stops a motion with, only a moving channel has. -/
theorem State.moving_of_arrival {s : State} {c : ChanId} {r : StopReason} (h : s.arrival c = some r) :
    (s.chan c).state.moving = true := by
  unfold State.arrival at h
  dsimp only at h
  split at h
  · cases h
  next d hd => rw [ChanState.moving, hd]; rfl

theorem State.moving_of_switchReason {s : State} {c : ChanId} {which : Dir} {active : Bool} {r : StopReason}
    (h : s.switchReason c which active = some r) : (s.chan c).state.moving = true := by
  unfold State.switchReason at h
  split at h
  next hend =>
    have hdriven := beq_iff_eq.mp (Bool.and_eq_true_iff.mp hend).2
    rw [ChanState.moving, hdriven]
    rfl
  next =>
    split at h
    · rw [← s.switchRead_state c c which active]
      exact State.moving_of_arrival h
    · cases h

/-- The stop's own judgement and the one after it are one. -/
theorem State.endSwitch_eq_switched (s : State) (c : ChanId) (which : Dir) (active : Bool) :
    s.endSwitch c which active = (s.switched c which active).reevaluate := by
  rw [State.endSwitch_eq, State.switched]
  cases hreason : s.switchReason c which active with
  | none => rfl
  | some r =>
    have hmoving : ((s.switchRead c which active).chan c).state.moving = true := by
      rw [s.switchRead_state]
      exact State.moving_of_switchReason hreason
    have hstop : (s.switchRead c which active).stopMotion c r =
        (((s.switchRead c which active).stopped c r).raiseIf r.raises .stopped).reevaluate := if_pos hmoving
    show State.reevaluate (State.stopMotion _ c r) = _
    rw [hstop, State.reevaluate_reevaluate]

/-! ### The reading and the reason in the words of the state -/

/-- The position once an end switch has been read: the IN switch becoming active re-references it (R135). -/
def State.switchPosition (s : State) (c : ChanId) (which : Dir) (active : Bool) : Int :=
  if which = .inward ∧ active = true then s.reference c else (s.chan c).position

theorem State.switchRead_eq (s : State) (c : ChanId) (which : Dir) (active : Bool) : s.switchRead c which active =
    s.modChan c fun ch =>
      { ch with
        endOut := if which = .outward then active else ch.endOut
        endIn := if which = .inward then active else ch.endIn
        position := s.switchPosition c which active } := by
  refine congrArg (fun v => { s with chans := v }) (update_congr _ _ ?_)
  cases which with
  | outward => rfl
  | inward => cases active <;> rfl

/-- What the switch reads of its channel (R135). -/
theorem State.switchRead_reading (s : State) (c : ChanId) (which : Dir) (active : Bool) :
    ((s.switchRead c which active).chan c).endActive which = active
      ∧ (∀ o, o ≠ which → ((s.switchRead c which active).chan c).endActive o = (s.chan c).endActive o)
      ∧ ((s.switchRead c which active).chan c).position = s.switchPosition c which active := by
  rw [s.switchRead_eq, State.chan_modChan_self]
  refine ⟨?_, fun o ho => ?_, rfl⟩
  · cases which <;> rfl
  · cases which with
    | outward =>
      cases o with
      | outward => exact absurd rfl ho
      | inward => rfl
    | inward =>
      cases o with
      | outward => rfl
      | inward => exact absurd rfl ho

/-- What the change of an end switch ends a motion with: the switch of the driven direction, or where a re-reference puts a
channel that drives outward (R135, R136). -/
theorem State.switchReason_eq (s : State) (c : ChanId) (which : Dir) (active : Bool) :
    s.switchReason c which active =
      if active = true ∧ (s.chan c).state.driven = some which then some .end_
      else if active = true ∧ which = .inward ∧ (s.chan c).state = .driveOut then
        if ((s.chan c).motion.bind (·.target)).any (· ≤ s.switchPosition c which active) then some .atTarget
        else if (s.driveSettings c).any (·.travelMax ≤ s.switchPosition c which active) then some .softLimit
        else none
      else none := by
  rw [State.switchReason]
  by_cases hend : active = true ∧ (s.chan c).state.driven = some which
  · rw [if_pos hend, if_pos (by simpa using hend)]
  · rw [if_neg hend, if_neg (by simpa using hend)]
    by_cases hreference : active = true ∧ which = .inward
    · obtain ⟨rfl, rfl⟩ := hreference
      have hstate := s.switchRead_state c c .inward true
      have href : (Dir.inward == .inward && true) = true := rfl
      by_cases hout : (s.chan c).state = .driveOut
      · have hdriven : ((s.switchRead c .inward true).chan c).state.driven = some .outward := by rw [hstate, hout]; rfl
        rw [if_pos href, if_pos ⟨rfl, rfl, hout⟩, State.arrival_of_driven hdriven, s.switchRead_chan, if_pos rfl]
        rfl
      · have hdriven : ((s.switchRead c .inward true).chan c).state.driven = none := by
          rw [hstate]
          cases hst : (s.chan c).state with
          | driveOut => exact absurd hst hout
          | driveIn => exact absurd ⟨rfl, by rw [hst]; rfl⟩ hend
          | safe | ready | stopping | tripped => rfl
        rw [if_pos href, if_neg fun ⟨_, _, h⟩ => hout h, State.arrival, hdriven]
    · have hnone : ¬ (which == .inward && active) = true := by
        rw [Bool.and_eq_true, beq_iff_eq]
        exact fun h => hreference h.symm
      rw [if_neg hnone, if_neg fun ⟨hactive, hin, _⟩ => hreference ⟨hactive, hin⟩]

theorem State.arrival_cases {s : State} {c : ChanId} {r : StopReason} (h : s.arrival c = some r) :
    r = .atTarget ∨ r = .softLimit := by
  unfold State.arrival at h
  dsimp only at h
  split at h
  · cases h
  · split at h
    · exact .inl (Option.some.inj h).symm
    · split at h
      · exact .inr (Option.some.inj h).symm
      · cases h

/-- END and SOFT_LIMIT raise STOPPED, and the switch stops with no other reason but AT_TARGET (R137). -/
theorem State.switchReason_raises {s : State} {c : ChanId} {which : Dir} {active : Bool} {r : StopReason}
    (h : s.switchReason c which active = some r) (hne : r ≠ .atTarget) : r.raises = true := by
  unfold State.switchReason at h
  split at h
  · cases h
    rfl
  · split at h
    · obtain rfl | rfl := State.arrival_cases h
      · exact absurd rfl hne
      · rfl
    · cases h

/-! ### The state before the judgement -/

theorem State.switched_of_none {s : State} {c : ChanId} {which : Dir} {active : Bool}
    (h : s.switchReason c which active = none) : s.switched c which active = s.switchRead c which active := by
  rw [State.switched, h]

theorem State.switched_of_some {s : State} {c : ChanId} {which : Dir} {active : Bool} {r : StopReason}
    (h : s.switchReason c which active = some r) :
    s.switched c which active = ((s.switchRead c which active).stopped c r).raiseIf r.raises .stopped := by
  rw [State.switched, h]

theorem State.stopped_driveOnly (s : State) (c : ChanId) (r : StopReason) : DriveOnly s (s.stopped c r) :=
  .of_update s _ _ _

theorem State.switched_driveOnly (s : State) (c : ChanId) (which : Dir) (active : Bool) :
    DriveOnly s (s.switched c which active) := by
  have hread : DriveOnly s (s.switchRead c which active) := s.modChan_driveOnly c _
  unfold State.switched
  split
  · exact hread
  · exact (hread.trans (State.stopped_driveOnly _ c _)).trans (State.raiseIf_driveOnly _ _ _)

/-- A stop by the switch is of a moving channel, so every condition reads as it did before it. -/
theorem State.switched_sameConditions (s : State) (c : ChanId) (which : Dir) (active : Bool) :
    SameConditions (s.switchRead c which active) (s.switched c which active) := by
  cases hreason : s.switchReason c which active with
  | none =>
    rw [State.switched_of_none hreason]
    exact ⟨rfl, rfl, fun _ => rfl, fun _ _ => rfl⟩
  | some r =>
    rw [State.switched_of_some hreason]
    refine .of_update c (·.stop r (later s.now (s.stopDwell c))) rfl rfl rfl (fun d => by cases d <;> rfl) ?_
    rw [s.switchRead_state]
    exact (ChanState.still_of_moving (State.moving_of_switchReason hreason)).symm

/-- The stop touches no other channel. -/
theorem State.switched_other {s : State} {c d : ChanId} {which : Dir} {active : Bool}
    (h : d ≠ c ∨ s.switchReason c which active = none) :
    (s.switched c which active).chan d = (s.switchRead c which active).chan d
      ∧ (s.switched c which active).prot d = s.prot d
      ∧ (s.switched c which active).unguarded d = (s.switchRead c which active).unguarded d := by
  have hchan : (s.switched c which active).chan d = (s.switchRead c which active).chan d
      ∧ (s.switched c which active).prot d = s.prot d := by
    cases hreason : s.switchReason c which active with
    | none =>
      rw [State.switched_of_none hreason]
      exact ⟨rfl, rfl⟩
    | some r =>
      have hne : d ≠ c := h.resolve_right (by rw [hreason]; exact nofun)
      rw [State.switched_of_some hreason]
      exact ⟨look_update_of_ne _ _ hne.symm, look_update_of_ne _ _ hne.symm⟩
  obtain ⟨hchan, hprot⟩ := hchan
  exact ⟨hchan, hprot, (s.switched_sameConditions c which active).unguarded (by rw [hchan])⟩

/-- The channel that the switch stops. -/
theorem State.switched_stopped {s : State} {c : ChanId} {which : Dir} {active : Bool} {r : StopReason}
    (h : s.switchReason c which active = some r) :
    (s.switched c which active).chan c =
        ((s.switchRead c which active).chan c).stop r (later s.status.stamp (s.stopDwell c))
      ∧ (s.switched c which active).prot c = (s.prot c).endMotion := by
  rw [State.switched_of_some h]
  exact ⟨look_update_self _ _ _, look_update_self _ _ _⟩

theorem DriveOnly.same {s t : State} (h : DriveOnly s t) : t.esl = s.esl ∧ t.path = s.path ∧ sameLinks s t
    ∧ sameReceive s t ∧ samePlan s t ∧ t.poll = s.poll := by
  obtain ⟨-, _, _, _, _, rfl⟩ := h
  exact ⟨rfl, rfl, ⟨rfl, rfl⟩, ⟨rfl, rfl, rfl⟩, ⟨rfl, rfl, rfl⟩, rfl⟩

/-! ### The state after the judgement -/

section
variable {s : State} {c : ChanId} {which : Dir} {active : Bool}

/-- The level is held and the position re-referenced, whatever stops. -/
theorem State.endSwitch_reading :
    ((s.endSwitch c which active).chan c).endActive which = active
      ∧ (∀ o, o ≠ which → ((s.endSwitch c which active).chan c).endActive o = (s.chan c).endActive o)
      ∧ ((s.endSwitch c which active).chan c).position = s.switchPosition c which active := by
  obtain ⟨hlevel, hother, hposition⟩ := s.switchRead_reading c which active
  have hends := (s.switched_sameConditions c which active).ends c
  have hkept : ((s.switched c which active).chan c).position = ((s.switchRead c which active).chan c).position := by
    cases hreason : s.switchReason c which active with
    | none => rw [State.switched_of_none hreason]
    | some r =>
      obtain ⟨hchan, -⟩ := State.switched_stopped hreason
      rw [hchan]
      rfl
  obtain ⟨hjudged, hjudgedEnds⟩ := (s.switched c which active).reevaluate_reading c
  rw [s.endSwitch_eq_switched]
  exact ⟨(hjudgedEnds which).trans ((hends which).trans hlevel),
    fun o ho => (hjudgedEnds o).trans ((hends o).trans (hother o ho)), hjudged.trans (hkept.trans hposition)⟩

/-- From `s`, with the switch read, to `t` a motion has ended with a reason (R137). -/
def State.StopsWith (s read t : State) (d : ChanId) (r : StopReason) : Prop :=
  t.chan d = (read.chan d).stop r (later s.status.stamp (s.stopDwell d)) ∧ t.prot d = (s.prot d).endMotion
    ∧ (r ≠ .atTarget → t.caused .stopped = true)

theorem State.endSwitch_stops {r : StopReason} (h : s.switchReason c which active = some r) :
    s.StopsWith (s.switchRead c which active) (s.endSwitch c which active) c r := by
  obtain ⟨hchan, hprot⟩ := State.switched_stopped h
  have hmoving : ((s.switched c which active).chan c).state.moving = false := by rw [hchan]; rfl
  obtain ⟨hjudgedChan, hjudgedProt⟩ := State.reevaluate_chan_of_not_moving hmoving
  rw [s.endSwitch_eq_switched]
  refine ⟨hjudgedChan.trans hchan, hjudgedProt.trans hprot, fun hne => State.reevaluate_caused_of_caused ?_⟩
  rw [State.switched_of_some h]
  exact State.raiseIf_caused _ _ (State.switchReason_raises h hne)

/-- A channel that the switch does not stop is judged with the switch read. -/
theorem State.endSwitch_judges {d : ChanId} (h : d ≠ c ∨ s.switchReason c which active = none) :
    ((s.switchRead c which active).unguarded d = true →
        s.StopsWith (s.switchRead c which active) (s.endSwitch c which active) d .interlock)
      ∧ ((s.switchRead c which active).unguarded d = false →
        (s.endSwitch c which active).chan d = (s.switchRead c which active).chan d
          ∧ (s.endSwitch c which active).prot d = s.prot d) := by
  obtain ⟨hchan, hprot, hunguarded⟩ := State.switched_other h
  have htime : later (s.switched c which active).now ((s.switched c which active).stopDwell d) =
      later s.status.stamp (s.stopDwell d) := by
    cases hreason : s.switchReason c which active with
    | none => rw [State.switched_of_none hreason]; rfl
    | some r =>
      rw [State.switched_of_some hreason, State.raiseIf_eq]
      split <;> rfl
  rw [s.endSwitch_eq_switched, State.StopsWith, State.reevaluate_chan, State.reevaluate_prot, hchan, hprot, htime]
  refine ⟨fun hbroken => ?_, fun hheld => ?_⟩
  · have hv := hunguarded.trans hbroken
    rw [if_pos hv, if_pos hv]
    exact ⟨rfl, rfl, fun _ => State.reevaluate_caused hv⟩
  · have hv : ¬ (s.switched c which active).unguarded d = true := by rw [hunguarded, hheld]; exact Bool.false_ne_true
    rw [if_neg hv, if_neg hv]
    exact ⟨rfl, rfl⟩

/-- With no guard broken, and no reason that raises STOPPED, the status stays. -/
theorem State.endSwitch_status
    (hreason : s.switchReason c which active = none ∨ s.switchReason c which active = some .atTarget)
    (hguarded : ∀ d, (s.switchRead c which active).unguarded d = false) :
    (s.endSwitch c which active).status = s.status := by
  have hstatus : (s.switched c which active).status = s.status := by
    obtain h | h := hreason
    · rw [State.switched_of_none h]
      rfl
    · rw [State.switched_of_some h]
      rfl
  have hheld (d : ChanId) : (s.switched c which active).unguarded d = false := by
    by_cases hd : d ≠ c ∨ s.switchReason c which active = none
    · obtain ⟨-, -, hunguarded⟩ := State.switched_other hd
      rw [hunguarded, hguarded]
    · obtain ⟨hdc, hsome⟩ := not_or.mp hd
      obtain ⟨hchan, -⟩ := State.switched_stopped (hreason.resolve_left hsome)
      rw [not_ne_iff.mp hdc, State.unguarded, hchan]
      rfl
  rw [s.endSwitch_eq_switched, State.reevaluate_of_guarded hheld]
  exact hstatus

end

/-- Settles O52: the stop that the switch brings judges the guards with the switch read, and the judgement after it finds
them so. -/
theorem endSwitchStopsMotion : Obligations.EndSwitchStopsMotion := by
  intro c which active s hrun
  refine ⟨fun heq => congrArg Host.Outcome.next (if_pos heq), ?_⟩
  intro hne ch pos read reason
  have hread : read = s.switchRead c which active := (s.switchRead_eq c which active).symm
  have hreason : reason = s.switchReason c which active := (s.switchReason_eq c which active).symm
  have hdrive : DriveOnly s (s.endSwitch c which active) := by
    rw [s.endSwitch_eq_switched]
    exact (s.switched_driveOnly c which active).trans (State.reevaluate_driveOnly _)
  have hguards : (s.endSwitch c which active).guards = (s.endSwitch c which active).guardResults := by
    rw [s.endSwitch_eq_switched]
    exact State.reevaluate_guards _
  obtain ⟨hesl, hpath, hlinks, hreceive, hplan, hpoll⟩ := hdrive.same
  obtain ⟨hlevel, hother, hposition⟩ := State.endSwitch_reading (s := s) (c := c) (which := which) (active := active)
  obtain ⟨hraised, -⟩ := hdrive
  have hexec : exec (.endSwitchChange c which active) s = .next (s.endSwitch c which active) :=
    congrArg Host.Outcome.next ((if_neg hne).trans (State.event_samePath hrun hpath))
  refine ⟨s.endSwitch c which active, hexec, hlevel, hother, hposition, ?_, ?_, hraised, hguards, hesl, hpath, hlinks,
    hreceive, hplan, hpoll⟩
  · rw [hread, hreason]
    exact ⟨fun r hr => State.endSwitch_stops hr, fun d hd => State.endSwitch_judges hd⟩
  · rw [hread, hreason]
    exact State.endSwitch_status

end Sys2Proof.Machine
end

section
/-! CLEAR_TRIP, WATCH_ON and WATCH_OFF (O47). -/

namespace Sys2Proof.Machine

/-- No guard reads a protection record. -/
theorem State.GuardsHeld.modProt {s : State} (h : s.GuardsHeld) (c : ChanId) (g : Protection → Protection) :
    (s.modProt c g).GuardsHeld := ⟨h.judged, h.guarded⟩

theorem State.judge_clearTrip {s : State} {c : ChanId} {d : DriveCommand} (hk : cmdOf d.code = some .clearTrip)
    (htripped : (s.chan c).state = .tripped) (hesl : s.esl = false) : s.judge c .zone d = none := by
  rw [s.judge_of_code hk (by simp) fun _ => rfl]
  exact State.checkKnown_other rfl (by rw [htripped]; rfl) nofun fun _ => hesl

/-- The two watch codes pass the checks for the windlass in SAFE or READY (R156). -/
theorem State.judge_watch {s : State} {d : DriveCommand} {k : CmdCode} (hk : cmdOf d.code = some k)
    (hwatch : k = .watchOn ∨ k = .watchOff) (hstate : (s.chan 0).state = .safe ∨ (s.chan 0).state = .ready) :
    s.judge 0 .zone d = none := by
  have haccepted : k.acceptedIn (s.chan 0).state = true := by
    rcases hwatch with rfl | rfl <;> rcases hstate with h | h <;> rw [h] <;> rfl
  have hmotion : k.motion = none := by rcases hwatch with rfl | rfl <;> rfl
  have hline : ¬ (k = .enable ∨ k = .clearTrip) := by rcases hwatch with rfl | rfl <;> decide
  have hchecks : s.judge windlass .zone d = s.checkKnown windlass .zone k d :=
    s.judge_of_code hk (fun _ => rfl) fun _ => rfl
  exact hchecks.trans (State.checkKnown_other hmotion haccepted (fun h => absurd (.inl h) hline) fun h => absurd h hline)

/-- A trip cleared leaves the channel as STILL as it was, so nothing but its own records changes (R149). -/
theorem State.applyClearTrip_of_guarded {s : State} (h : s.GuardsHeld) {c : ChanId}
    (htripped : (s.chan c).state = .tripped) :
    s.applyClearTrip c = (s.modProt c fun k => { k with trip := none }).atRest c .safe :=
  State.toRest_of_still (h.modProt c _) (.inl rfl) (congrArg ChanState.still htripped)

/-- Settles O47: a TRIPPED channel is as STILL as a SAFE one, and a watch command changes the watch alone. -/
theorem clearTripAndWatchCommands : Obligations.ClearTripAndWatchCommands := by
  refine ⟨fun c id f s htakes hsound htripped hesl => ?_, fun id f s hstate => ⟨fun htakes => ?_, fun htakes => ?_⟩⟩
  · have hjudge := State.judge_clearTrip (d := zoneFields .clearTrip f) (cmdOf_code .clearTrip) htripped hesl
    have happly : s.applyCommand c .zone (zoneFields .clearTrip f) = s.applyClearTrip c := rfl
    have hprots : update (update s.prots c fun k => { k with trip := none }) c Protection.rest =
        update s.prots c fun k => { k.rest with trip := none } := update_update _ _ _ _
    obtain ⟨x, hx, hexec⟩ := State.exec_zoneCommand_accepted htakes hjudge
    refine ⟨x, hx, hexec.trans ?_⟩
    rw [State.command_of_accepted hjudge, happly,
      State.applyClearTrip_of_guarded (State.guardsHeld_of_sound hsound) htripped]
    exact congrArg (fun ps => Host.Outcome.next (State.withEntry
      { s with chans := update s.chans c fun ch => ch.rest .safe, prots := ps } _)) hprots
  · have hjudge := State.judge_watch (d := zoneFields .watchOn f) (cmdOf_code .watchOn) (.inl rfl) hstate
    obtain ⟨x, hx, hexec⟩ := State.exec_zoneCommand_accepted htakes hjudge
    rw [State.command_of_accepted hjudge] at hexec
    exact ⟨x, hx, hexec⟩
  · have hjudge := State.judge_watch (d := zoneFields .watchOff f) (cmdOf_code .watchOff) (.inr rfl) hstate
    obtain ⟨x, hx, hexec⟩ := State.exec_zoneCommand_accepted htakes hjudge
    rw [State.command_of_accepted hjudge] at hexec
    exact ⟨x, hx, hexec⟩

end Sys2Proof.Machine
end

section
/-! The hold and the stop dwell that run out (O50). -/

namespace Sys2Proof.Machine

theorem due_none (now : Stamp) : due now none = false := rfl

/-- Only a moving channel has a timer of its motion that is due (R143, R144, R154). -/
theorem Channel.Agrees.moving_of_due {ch : Channel} {k : Protection} (h : ch.Agrees k) {now : Stamp}
    (hdue : due now k.stallExpiry = true ∨ due now k.runExpiry = true ∨ due now k.holdExpiry = true) :
    ch.state.moving = true := by
  by_contra hmoving
  obtain ⟨hstall, hrun, hhold⟩ := h.timers ((Bool.not_eq_true _).mp hmoving)
  rw [hstall, hrun, hhold, due_none] at hdue
  simp at hdue

/-- Settles O50: the motion that lapses and the channel whose dwell ends break no guard of another channel. -/
theorem holdAndDwellExpire : Obligations.HoldAndDwellExpire := by
  intro c s hrun hsound
  have hguards := State.guardsHeld_of_sound hsound
  have hheld := State.driveHeld_of_sound hsound (State.running_inReset hrun)
  refine ⟨fun hdue => ?_, fun hstopping hdue => ?_⟩
  · have hmoving := (hheld.records c).moving_of_due (.inr (.inr hdue))
    have hstop : s.stopMotion c .holdLapse = (s.stopped c .holdLapse).raise .stopped :=
      State.stopMotion_of_guarded hguards hmoving .holdLapse
    have hevent : s.event (fun t => t.stopMotion c .holdLapse) = s.stopMotion c .holdLapse :=
      State.event_samePath hrun (s.stopMotion_driveOnly c _).path
    exact congrArg Host.Outcome.next ((if_pos hdue).trans (hevent.trans hstop))
  · have hdwell : s.dwellDue c = true := by rw [State.dwellDue, hstopping, hdue]; rfl
    have hevent : s.event (fun t => t.toRest c .ready) = s.toRest c .ready :=
      State.event_samePath hrun (s.toRest_driveOnly c _).path
    have hrest := State.toRest_of_guarded hguards c (.inr rfl)
    have hother (d : ChanId) (hd : d ≠ c) : (s.atRest c .ready).chan d = s.chan d ∧ (s.atRest c .ready).prot d = s.prot d :=
      ⟨look_update_of_ne _ _ hd.symm, look_update_of_ne _ _ hd.symm⟩
    exact ⟨_, congrArg Host.Outcome.next ((if_pos hdwell).trans (hevent.trans hrest)), look_update_self _ _ _, hother, rfl,
      rfl, rfl, rfl, ⟨rfl, rfl⟩, ⟨rfl, rfl, rfl⟩, ⟨rfl, rfl, rfl⟩, rfl⟩

end Sys2Proof.Machine
end

section
/-! Trips of a channel that is not at rest (O49): the tripped state, its alarm request, and what the judgement leaves. -/

namespace Sys2Proof.Machine

/-! ### What a trip makes of the state (R145) -/

/-- The state in which a channel has tripped and its alarm request is made, before the guards are judged (R145). -/
def State.tripAlarmed (s : State) (c : ChanId) (cause : TripCause) : State := (s.trippedBy c cause).alarmRequest c

theorem State.takeTrip_eq_tripAlarmed (s : State) (c : ChanId) (cause : TripCause) :
    s.takeTrip c cause = (s.tripAlarmed c cause).reevaluate := s.takeTrip_eq c cause

/-- What the trip of a channel leaves of its record, and the alarm requests that it has merged. -/
def Channel.tripped (ch : Channel) (merged : Counter) : Channel :=
  { ch with
    state := .tripped, motion := none, duty := 0, dwellEnd := none, stopReason := .trip, alarmsMerged := merged }

/-- The alarm request of a trip is the one that the state before it would make. -/
theorem State.tripAlarmed_eq (s : State) (c : ChanId) (cause : TripCause) : s.tripAlarmed c cause =
    { s with
      senders := (s.alarmRequest c).senders
      path := (s.alarmRequest c).path
      chans := update s.chans c (·.tripped ((s.alarmRequest c).chan c).alarmsMerged)
      prots := (s.trippedBy c cause).prots
      status := (s.trippedBy c cause).status } := by
  have hmerged : ((s.trippedBy c cause).chan c).alarmsMerged = (s.chan c).alarmsMerged := by
    rw [s.trippedBy_chan, if_pos rfl]
  have halarm : s.tripAlarmed c cause = _ :=
    s.alarmRequest_of_parts (s.trippedBy c cause).prots (s.trippedBy c cause).status hmerged
  rw [halarm, update_update]
  rfl

theorem State.tripAlarmed_chan (s : State) (c : ChanId) (cause : TripCause) :
    (s.tripAlarmed c cause).chan c = (s.chan c).tripped ((s.tripAlarmed c cause).chan c).alarmsMerged := by
  have hchan : (s.tripAlarmed c cause).chan c = (s.chan c).tripped ((s.alarmRequest c).chan c).alarmsMerged := by
    rw [s.tripAlarmed_eq]
    exact look_update_self _ _ _
  rw [hchan]
  rfl

theorem State.tripAlarmed_prot (s : State) (c : ChanId) (cause : TripCause) :
    (s.tripAlarmed c cause).prot c = { (s.prot c).rest with trip := some (s.tripOf c cause) } := by
  rw [s.tripAlarmed_eq]
  exact look_update_self _ _ _

/-- The trip of a channel and its alarm request touch no other. -/
theorem State.tripAlarmed_other (s : State) {c d : ChanId} (cause : TripCause) (hd : d ≠ c) :
    (s.tripAlarmed c cause).chan d = s.chan d ∧ (s.tripAlarmed c cause).prot d = s.prot d := by
  rw [s.tripAlarmed_eq]
  exact ⟨look_update_of_ne _ _ hd.symm, look_update_of_ne _ _ hd.symm⟩

theorem State.tripAlarmed_status (s : State) (c : ChanId) (cause : TripCause) :
    (s.tripAlarmed c cause).status = (s.raise .trip).status := by
  rw [s.tripAlarmed_eq]
  rfl

/-- TRIPPED is STILL, so no condition that was met is lost. -/
theorem State.tripAlarmed_loosens (s : State) (c : ChanId) (cause : TripCause) : Loosens s (s.tripAlarmed c cause) := by
  rw [s.tripAlarmed_eq]
  exact .of_update c (·.tripped ((s.alarmRequest c).chan c).alarmsMerged) rfl rfl rfl (fun d => by cases d <;> rfl)
    (fun _ => rfl) rfl

/-- A trip breaks no guard of another channel. -/
theorem State.takeTrip_of_guarded {s : State} (h : s.GuardsHeld) (c : ChanId) (cause : TripCause) :
    s.takeTrip c cause = { s.tripAlarmed c cause with guards := (s.tripAlarmed c cause).guardResults } := by
  rw [s.takeTrip_eq_tripAlarmed]
  exact h.reevaluate_loosened (s.tripAlarmed_loosens c cause)

/-- A trip event on a channel that is READY, moving or STOPPING (R145). -/
theorem State.trip_of_not_halted {s : State} {c : ChanId} (h : ¬ s.Halted c) (cause : TripCause) :
    s.trip c cause = s.takeTrip c cause := by
  obtain ⟨hsafe, htripped⟩ := not_or.mp h
  unfold State.trip
  cases hstate : (s.chan c).state with
  | safe => exact absurd hstate hsafe
  | tripped => exact absurd hstate htripped
  | ready | driveOut | driveIn | stopping => rfl

theorem State.overcurrent_of_cut {s : State} {c : ChanId} {set : DriveSettings} (hset : s.driveSettings c = some set)
    (hmode : set.tripMode = .cut) : s.overcurrent c = s.trip c .overcurrent := by
  rw [State.overcurrent, hset]
  dsimp only
  rw [hmode]

/-- Settles O49: each of the three events is a trip of a channel whose guards hold. -/
theorem tripsCutMotion : Obligations.TripsCutMotion := by
  intro c set s hrun hsound hstate hset trips
  have hhalted : ¬ s.Halted c := by
    rintro (h | h) <;> rw [h] at hstate <;> simp at hstate
  have htrips (cause : TripCause) : trips (s.takeTrip c cause).commit cause := by
    rw [State.takeTrip_of_guarded (State.guardsHeld_of_sound hsound) c cause]
    have hchan := s.tripAlarmed_chan c cause
    have hprot := s.tripAlarmed_prot c cause
    have hcaused : (s.tripAlarmed c cause).caused .trip = true :=
      (State.caused_of_status (s.tripAlarmed_status c cause) _).trans (State.raise_caused _ _)
    have hdrive : DriveSide s (s.tripAlarmed c cause) :=
      (State.alarmRequest_driveSide _ c).after (.of_rfl rfl rfl rfl)
    have hesl : (s.tripAlarmed c cause).esl = s.esl := by rw [s.tripAlarmed_eq]
    have houtputs : ((s.tripAlarmed c cause).chan c).outputs = (false, false, 0) :=
      Channel.outputs_of_not_moving (by rw [hchan]; rfl)
    exact ⟨rfl, hchan, congrArg Protection.trip hprot, houtputs, congrArg Protection.onset hprot,
      congrArg Protection.armed hprot, congrArg Protection.stallExpiry hprot, congrArg Protection.runExpiry hprot,
      congrArg Protection.holdExpiry hprot, hcaused, hesl, rfl, fun d hd => s.tripAlarmed_other cause hd, hdrive.links,
      ⟨hdrive.routers, hdrive.ringWriter, hdrive.repeater⟩, ⟨hdrive.loader, hdrive.planSel, hdrive.inReset⟩, hdrive.poll⟩
  have hevent (cause : TripCause) : s.event (fun t => t.trip c cause) = (s.takeTrip c cause).commit := by
    rw [State.event_of_running _ _ (State.running_inReset hrun), State.trip_of_not_halted hhalted]
  refine ⟨fun hmode hdue => ?_, fun hdue => ?_, fun hdue => ?_⟩
  · have hcut : s.event (fun t => t.overcurrent c) = s.event fun t => t.trip c .overcurrent := by
      rw [State.event, State.event, State.overcurrent_of_cut hset hmode]
    exact ⟨_, congrArg Host.Outcome.next ((if_pos hdue).trans (hcut.trans (hevent _))), htrips _⟩
  · exact ⟨_, congrArg Host.Outcome.next ((if_pos hdue).trans (hevent _)), htrips _⟩
  · exact ⟨_, congrArg Host.Outcome.next ((if_pos hdue).trans (hevent _)), htrips _⟩

end Sys2Proof.Machine
end

section
/-! The emergency stop line (O53): the trips of one assertion, channel after channel, and the alarm requests that they make. -/

namespace Sys2Proof.Machine

/-! ### Alarm requests, whatever else the trips change (R83) -/

/-- Two states that an alarm request reads alike (R83): the settings, the links, the slots, the memory path, and the counts
of merged requests. -/
structure SameAlarms (s t : State) : Prop where
  loader : t.loader = s.loader
  links : t.links = s.links
  senders : t.senders = s.senders
  path : t.path = s.path
  merged : ∀ d, (t.chan d).alarmsMerged = (s.chan d).alarmsMerged

namespace SameAlarms

theorem refl (s : State) : SameAlarms s s := ⟨rfl, rfl, rfl, rfl, fun _ => rfl⟩

theorem trans {s t u : State} (h : SameAlarms s t) (k : SameAlarms t u) : SameAlarms s u :=
  ⟨k.loader.trans h.loader, k.links.trans h.links, k.senders.trans h.senders, k.path.trans h.path,
    fun d => (k.merged d).trans (h.merged d)⟩

theorem plan {s t : State} (h : SameAlarms s t) : t.plan = s.plan := congrArg PlanLoader.plan h.loader

theorem modSender {s t : State} (h : SameAlarms s t) (l : LinkId) (f : SendCtl → SendCtl) :
    SameAlarms (s.modSender l f) (t.modSender l f) :=
  ⟨h.loader, h.links, congrArg (fun v : Vector SendCtl 2 => update v l f) h.senders, h.path, h.merged⟩

theorem submitFetch {s t : State} (h : SameAlarms s t) (l : LinkId) (i : SlotId) (n : Nat) :
    SameAlarms (s.submitFetch l i n) (t.submitFetch l i n) := by
  rw [s.submitFetch_eq, t.submitFetch_eq]
  exact ⟨h.loader, h.links, h.senders, State.submitFetch_path_congr h.plan h.path l i n, h.merged⟩

/-- An alarm request reads no more than that. -/
theorem alarmRequest {s t : State} (h : SameAlarms s t) (c : ChanId) : SameAlarms (s.alarmRequest c) (t.alarmRequest c) := by
  have hset : t.driveSettings c = s.driveSettings c := congrArg (fun p : Plan => look p.drives c) h.plan
  have hsender (l : LinkId) : t.sender l = s.sender l := congrArg (look · l) h.senders
  have haccepted (l : LinkId) (i : SlotId) : t.alarmAccepted l i = s.alarmAccepted l i := by
    simp only [State.alarmAccepted, State.slot, State.link, hsender, h.links]
  unfold State.alarmRequest
  rw [hset]
  split
  · exact h
  next l i _ =>
    rw [haccepted, hsender]
    split
    · exact (h.modSender l _).submitFetch l i _
    · rw [State.bump_alarmsMerged, State.bump_alarmsMerged]
      refine ⟨h.loader, h.links, h.senders, h.path, fun d => ?_⟩
      have hcount (u : State) : ((u.modChan c fun ch => { ch with alarmsMerged := satInc ch.alarmsMerged }).chan d).alarmsMerged =
          if c = d then satInc (u.chan d).alarmsMerged else (u.chan d).alarmsMerged :=
        (congrArg Channel.alarmsMerged (look_update u.chans c d _)).trans (apply_ite Channel.alarmsMerged _ _ _)
      rw [hcount, hcount, h.merged]

end SameAlarms

/-! ### One trip event (R145, R146) -/

/-- The tripped state that a judgement has followed reads as the alarm request alone would leave it. -/
theorem State.takeTrip_sameAlarms (s : State) (c : ChanId) (cause : TripCause) :
    SameAlarms (s.alarmRequest c) (s.takeTrip c cause) := by
  have htripped : SameAlarms s (s.trippedBy c cause) := by
    refine ⟨rfl, rfl, rfl, rfl, fun d => ?_⟩
    rw [s.trippedBy_chan]
    split <;> rfl
  have hjudged (u : State) : SameAlarms u u.reevaluate := by
    refine ⟨rfl, rfl, rfl, rfl, fun d => ?_⟩
    rw [u.reevaluate_chan]
    split <;> rfl
  rw [s.takeTrip_eq_tripAlarmed]
  exact (htripped.alarmRequest c).trans (hjudged _)

theorem State.takeTrip_raised (s : State) (c : ChanId) (cause : TripCause) :
    statusOnlyRaised s (s.takeTrip c cause) := by
  obtain ⟨hjudged, -⟩ := (s.tripAlarmed c cause).reevaluate_driveOnly
  rw [s.takeTrip_eq_tripAlarmed]
  exact ((s.raise_raised .trip).trans (.of_same (s.tripAlarmed_status c cause))).trans hjudged

/-- The channel that a trip cuts off: its records, and the cause TRIP. -/
theorem State.takeTrip_chan (s : State) (c : ChanId) (cause : TripCause) :
    (s.takeTrip c cause).chan c = (s.chan c).tripped ((s.takeTrip c cause).chan c).alarmsMerged
      ∧ (s.takeTrip c cause).prot c = { (s.prot c).rest with trip := some (s.tripOf c cause) }
      ∧ (s.takeTrip c cause).caused .trip = true := by
  have hchan := s.tripAlarmed_chan c cause
  have hmoving : ((s.tripAlarmed c cause).chan c).state.moving = false := by rw [hchan]; rfl
  obtain ⟨hjudgedChan, hjudgedProt⟩ := State.reevaluate_chan_of_not_moving hmoving
  rw [s.takeTrip_eq_tripAlarmed, hjudgedChan, hjudgedProt]
  refine ⟨hchan, s.tripAlarmed_prot c cause, State.reevaluate_caused_of_caused ?_⟩
  rw [State.caused_of_status (s.tripAlarmed_status c cause)]
  exact State.raise_caused _ _

theorem State.tripOf_cause (s : State) (c : ChanId) (cause : TripCause) : (s.tripOf c cause).cause = cause := by
  rw [← s.tripRecord_eq_tripOf]
  rfl

/-- The record of a trip depends on the channel, its protection and the stamp (Table 8-2). -/
theorem State.tripOf_congr {s t : State} {c : ChanId} (hchan : t.chan c = s.chan c) (hprot : t.prot c = s.prot c)
    (hstamp : t.status.stamp = s.status.stamp) (cause : TripCause) : t.tripOf c cause = s.tripOf c cause := by
  simp only [State.tripOf, hchan, hprot, hstamp]

/-- What the trips of other channels leave of one: its records, or, where the guards do not hold, the stop that the judgement
of a broken guard makes (R152). -/
def State.Spares (s t : State) (d : ChanId) : Prop :=
  (t.chan d = s.chan d ∧ t.prot d = s.prot d)
    ∨ (¬ s.GuardsHeld ∧ (s.chan d).state.moving = true ∧ ∃ e, t.chan d = (s.chan d).stop .interlock e)

theorem State.Spares.refl (s : State) (d : ChanId) : s.Spares s d := .inl ⟨rfl, rfl⟩

/-- A channel that does not move is spared whole. -/
theorem State.Spares.of_not_moving {s t : State} {d : ChanId} (h : s.Spares t d) (hm : (s.chan d).state.moving = false) :
    t.chan d = s.chan d ∧ t.prot d = s.prot d :=
  h.resolve_right fun ⟨_, hmoving, _⟩ => absurd (hm.symm.trans hmoving) nofun

/-- Every channel is spared whole where the guards hold. -/
theorem State.Spares.of_guarded {s t : State} {d : ChanId} (h : s.Spares t d) (hs : s.GuardsHeld) :
    t.chan d = s.chan d ∧ t.prot d = s.prot d := h.resolve_right fun ⟨hbroken, _⟩ => hbroken hs

theorem State.Spares.trans {s t u : State} {d : ChanId} (h : s.Spares t d) (k : t.Spares u d)
    (hguards : s.GuardsHeld → t.GuardsHeld) : s.Spares u d := by
  obtain ⟨hchan, hprot⟩ | ⟨hbroken, hmoving, e, hchan⟩ := h
  · obtain ⟨kchan, kprot⟩ | ⟨kbroken, kmoving, e, kchan⟩ := k
    · exact .inl ⟨kchan.trans hchan, kprot.trans hprot⟩
    · rw [hchan] at kmoving kchan
      exact .inr ⟨fun hs => kbroken (hguards hs), kmoving, e, kchan⟩
  · obtain ⟨kchan, -⟩ := k.of_not_moving (by rw [hchan]; rfl)
    exact .inr ⟨hbroken, hmoving, e, kchan.trans hchan⟩

/-- Spared or stopped, a channel trips into the same record. -/
theorem State.Spares.tripped {s t : State} {d : ChanId} (h : s.Spares t d) (merged : Counter) :
    (t.chan d).tripped merged = (s.chan d).tripped merged := by
  obtain ⟨hchan, -⟩ | ⟨-, -, e, hchan⟩ := h <;> rw [hchan]
  rfl

/-- Spared or stopped, a channel is in SAFE or TRIPPED if it was, and not otherwise. -/
theorem State.Spares.halted {s t : State} {d : ChanId} (h : s.Spares t d) : t.Halted d ↔ s.Halted d := by
  obtain ⟨hchan, -⟩ | ⟨-, hmoving, e, hchan⟩ := h
  · rw [State.Halted, State.Halted, hchan]
  · have hstate : (t.chan d).state = .stopping := by rw [hchan]; rfl
    rw [State.Halted, State.Halted, hstate]
    rcases ChanState.moving_eq_true.mp hmoving with h | h <;> rw [h] <;> simp

/-- A trip spares every other channel. -/
theorem State.trip_spares (s : State) {c d : ChanId} (cause : TripCause) (hd : d ≠ c) : s.Spares (s.trip c cause) d := by
  by_cases hhalted : s.Halted c
  · unfold State.trip
    obtain hstate | hstate := hhalted <;> rw [hstate]
    · exact .refl s d
    · exact .inl ⟨rfl, look_update_of_ne _ _ hd.symm⟩
  · obtain ⟨hchan, hprot⟩ := s.tripAlarmed_other cause hd
    rw [State.trip_of_not_halted hhalted, s.takeTrip_eq_tripAlarmed, State.Spares, State.reevaluate_chan,
      State.reevaluate_prot, hchan, hprot]
    by_cases hbroken : (s.tripAlarmed c cause).unguarded d = true
    · rw [if_pos hbroken]
      obtain ⟨e, hdriven⟩ := State.driven_of_unguarded hbroken
      refine .inr ⟨fun hs => ?_, by rw [← hchan, ChanState.moving, hdriven]; rfl, _, rfl⟩
      rw [(s.tripAlarmed_loosens c cause).guarded hs.guarded d] at hbroken
      cases hbroken
    · rw [if_neg hbroken, if_neg hbroken]
      exact .inl ⟨rfl, rfl⟩

theorem State.trip_raised (s : State) (c : ChanId) (cause : TripCause) : statusOnlyRaised s (s.trip c cause) := by
  unfold State.trip
  split
  · exact .refl s
  · exact .of_same rfl
  all_goals exact s.takeTrip_raised c cause

theorem State.trip_esl (s : State) (c : ChanId) (cause : TripCause) : (s.trip c cause).esl = s.esl := by
  obtain htrip | ⟨hsteady, -⟩ := s.trip_cases c cause
  · rw [htrip, s.takeTrip_eq_tripAlarmed, s.tripAlarmed_eq]
    rfl
  · exact hsteady.esl

/-! ### The trips of a list of channels (R148) -/

/-- The trips of some channels, one after another. -/
def State.trips (s : State) (cause : TripCause) (cs : List ChanId) : State := cs.foldl (fun t c => t.trip c cause) s

theorem State.trips_cons (s : State) (cause : TripCause) (c : ChanId) (cs : List ChanId) :
    s.trips cause (c :: cs) = (s.trip c cause).trips cause cs := rfl

theorem State.trips_append (s : State) (cause : TripCause) (cs ds : List ChanId) :
    s.trips cause (cs ++ ds) = (s.trips cause cs).trips cause ds := List.foldl_append

theorem State.trips_raised (s : State) (cause : TripCause) (cs : List ChanId) : statusOnlyRaised s (s.trips cause cs) := by
  induction cs generalizing s with
  | nil => exact .refl s
  | cons c cs ih => exact (s.trip_raised c cause).trans (ih _)

theorem State.trips_esl (s : State) (cause : TripCause) (cs : List ChanId) : (s.trips cause cs).esl = s.esl := by
  induction cs generalizing s with
  | nil => rfl
  | cons c cs ih => exact (ih _).trans (s.trip_esl c cause)

/-- A channel that the list does not name is spared. -/
theorem State.trips_spares (s : State) (cause : TripCause) {cs : List ChanId} {d : ChanId} (hd : d ∉ cs) :
    s.Spares (s.trips cause cs) d := by
  induction cs generalizing s with
  | nil => exact .refl s d
  | cons c cs ih =>
    obtain ⟨hne, hd⟩ := not_or.mp (mt List.mem_cons.mpr hd)
    exact (s.trip_spares cause hne).trans (ih _ hd) fun h => State.trip_guardsHeld h c cause

/-- Between the trips before a channel's own and those after it, that channel is spared. -/
theorem State.trips_reach (s : State) (cause : TripCause) {cs : List ChanId} {d : ChanId} (hnodup : cs.Nodup) (hd : d ∈ cs) :
    ∃ t, s.Spares t d ∧ statusOnlyRaised s t ∧ (t.trip d cause).Spares (s.trips cause cs) d
      ∧ statusOnlyRaised (t.trip d cause) (s.trips cause cs) := by
  obtain ⟨before, behind, rfl⟩ := List.append_of_mem hd
  obtain ⟨hbefore, hbehind⟩ : d ∉ before ∧ d ∉ behind := by
    rw [List.nodup_append, List.nodup_cons] at hnodup
    obtain ⟨-, ⟨hbehind, -⟩, hdisjoint⟩ := hnodup
    exact ⟨fun h => hdisjoint d h d List.mem_cons_self rfl, hbehind⟩
  refine ⟨s.trips cause before, s.trips_spares cause hbefore, s.trips_raised cause before, ?_, ?_⟩ <;>
    rw [State.trips_append, State.trips_cons]
  · exact State.trips_spares _ cause hbehind
  · exact State.trips_raised _ cause behind

/-- The alarm requests of the trips are those of the channels not in SAFE or TRIPPED, in the same order. -/
theorem State.trips_sameAlarms {s t a : State} (cause : TripCause) {cs : List ChanId} (hnodup : cs.Nodup)
    (hspared : ∀ d ∈ cs, s.Spares t d) (hguards : s.GuardsHeld → t.GuardsHeld) (h : SameAlarms a t) :
    SameAlarms ((cs.filter fun c => (s.chan c).state ≠ .safe ∧ (s.chan c).state ≠ .tripped).foldl State.alarmRequest a)
      (t.trips cause cs) := by
  induction cs generalizing t a with
  | nil => exact h
  | cons c cs ih =>
    obtain ⟨hc, hnodup⟩ := List.nodup_cons.mp hnodup
    have hrest (d : ChanId) (hd : d ∈ cs) : s.Spares (t.trip c cause) d :=
      (hspared d (List.mem_cons_of_mem _ hd)).trans (t.trip_spares cause fun hdc => hc (hdc ▸ hd)) hguards
    have hguards' (hs : s.GuardsHeld) : (t.trip c cause).GuardsHeld := State.trip_guardsHeld (hguards hs) c cause
    have hhalted := (hspared c List.mem_cons_self).halted
    rw [State.trips_cons, List.filter_cons]
    by_cases hs : s.Halted c
    · have hquiet : SameAlarms t (t.trip c cause) := by
        unfold State.trip
        obtain hstate | hstate := hhalted.mpr hs <;> rw [hstate]
        · exact .refl t
        · exact ⟨rfl, rfl, rfl, rfl, fun _ => rfl⟩
      rw [if_neg (by simpa [State.Halted, ← not_or] using hs)]
      exact ih hnodup hrest hguards' (h.trans hquiet)
    · rw [if_pos (by simpa [State.Halted, not_or] using hs), List.foldl_cons]
      refine ih hnodup hrest hguards' ?_
      rw [State.trip_of_not_halted fun ht => hs (hhalted.mp ht)]
      exact (h.alarmRequest c).trans (t.takeTrip_sameAlarms c cause)

section
variable {s : State} (cause : TripCause) {cs : List ChanId} {d : ChanId} (hnodup : cs.Nodup) (hd : d ∈ cs)
include hnodup hd

/-- A SAFE channel discards the trip (R146). -/
theorem State.trips_chan_of_safe (hsafe : (s.chan d).state = .safe) :
    (s.trips cause cs).chan d = s.chan d ∧ (s.trips cause cs).prot d = s.prot d := by
  obtain ⟨t, hspared, -, hafter, -⟩ := s.trips_reach cause hnodup hd
  obtain ⟨hchan, hprot⟩ := hspared.of_not_moving (by rw [hsafe]; rfl)
  have htrip : t.trip d cause = t := by rw [State.trip, hchan, hsafe]
  rw [htrip] at hafter
  obtain ⟨hchan', hprot'⟩ := hafter.of_not_moving (by rw [hchan, hsafe]; rfl)
  exact ⟨hchan'.trans hchan, hprot'.trans hprot⟩

/-- A TRIPPED channel counts the trip in its record (R146). -/
theorem State.trips_chan_of_tripped (htripped : (s.chan d).state = .tripped) :
    (s.trips cause cs).chan d = s.chan d
      ∧ (s.trips cause cs).prot d = { s.prot d with trip := (s.prot d).trip.map TripRecord.again } := by
  obtain ⟨t, hspared, -, hafter, -⟩ := s.trips_reach cause hnodup hd
  obtain ⟨hchan, hprot⟩ := hspared.of_not_moving (by rw [htripped]; rfl)
  have htrip : (t.trip d cause).chan d = t.chan d
      ∧ (t.trip d cause).prot d = { t.prot d with trip := (t.prot d).trip.map TripRecord.again } := by
    rw [State.trip, hchan, htripped]
    exact ⟨hchan, look_update_self _ _ _⟩
  obtain ⟨htripChan, htripProt⟩ := htrip
  obtain ⟨hchan', hprot'⟩ := hafter.of_not_moving (by rw [htripChan, hchan, htripped]; rfl)
  rw [hchan', hprot', htripChan, htripProt, hchan, hprot]
  exact ⟨rfl, rfl⟩

/-- Any other channel trips, into the record of Table 8-2 for the state that it was in where the guards hold (R145). -/
theorem State.trips_chan_of_not_halted (hactive : ¬ s.Halted d) :
    (s.trips cause cs).chan d = (s.chan d).tripped ((s.trips cause cs).chan d).alarmsMerged
      ∧ ((s.trips cause cs).prot d).trip.map (·.cause) = some cause ∧ (s.trips cause cs).caused .trip = true
      ∧ (s.GuardsHeld → (s.trips cause cs).prot d = (s.trippedBy d cause).prot d) := by
  obtain ⟨t, hspared, ⟨hstatus, -⟩, hafter, hraised⟩ := s.trips_reach cause hnodup hd
  rw [State.trip_of_not_halted (mt hspared.halted.mp hactive)] at hafter hraised
  obtain ⟨hchan, hprot, hcaused⟩ := t.takeTrip_chan d cause
  obtain ⟨hchan', hprot'⟩ := hafter.of_not_moving (by rw [hchan]; rfl)
  rw [hchan', hprot', hprot]
  refine ⟨hchan.trans (hspared.tripped _), congrArg some (t.tripOf_cause d cause), hraised.caused hcaused, fun hs => ?_⟩
  obtain ⟨hsameChan, hsameProt⟩ := hspared.of_guarded hs
  have hstamp : t.status.stamp = s.status.stamp := by rw [hstatus]
  rw [s.trippedBy_prot, if_pos rfl, hsameProt, State.tripOf_congr hsameChan hsameProt hstamp]

end

/-! ### The line (R148) -/

theorem chanOrder_perm (n : Fin 6) : (chanOrder n).Perm (List.finRange 3) := by revert n; decide

/-- An assertion is the trips of every channel, with the line asserted. -/
theorem State.eslAsserts_eq (s : State) : s.eslAsserts =
    { State.trips { s with esl := true } .esl (chanOrder (Config.eslOrder s.freeCount)) with
      freeCount := s.freeCount + 1 } := rfl

theorem State.exec_eslAssertion {s : State} (hrun : s.running = true) (hesl : s.esl = false) :
    exec .eslAssertion s = .next s.eslAsserts.commit := by
  have hreleased : ¬ s.esl = true := by rw [hesl]; exact Bool.false_ne_true
  exact congrArg Host.Outcome.next ((if_neg hreleased).trans (State.event_of_running _ _ (State.running_inReset hrun)))

/-- Settles O53: the trips before a channel's own and those after it spare it, and the alarm requests read nothing that the
trips change. -/
theorem eslTripsEveryChannel : Obligations.EslTripsEveryChannel := by
  intro s hrun
  refine ⟨fun hesl => ?_, fun hesl => congrArg Host.Outcome.next (if_pos hesl),
    congrArg Host.Outcome.next (State.event_samePath hrun rfl)⟩
  let order := chanOrder (Config.eslOrder s.freeCount)
  let u : State := { s with esl := true }
  have hnodup : order.Nodup := (chanOrder_perm _).nodup_iff.mpr (List.nodup_finRange 3)
  have hmem (c : ChanId) : c ∈ order := mem_chanOrder _ c
  have hdrive : DriveSide s (u.trips .esl order) := s.eslTrips_driveSide order
  have hexec := State.exec_eslAssertion hrun hesl
  rw [s.eslAsserts_eq] at hexec
  have halarms := State.trips_sameAlarms (s := s) (t := u) (a := s) .esl hnodup (fun _ _ => .inl ⟨rfl, rfl⟩)
    (fun h => ⟨h.judged, h.guarded⟩) ⟨rfl, rfl, rfl, rfl, fun _ => rfl⟩
  refine ⟨_, hexec, u.trips_esl .esl order, fun c hsafe => ?_, fun c htripped => ?_,
    ⟨order, chanOrder_perm _, halarms.senders, State.commit_path_congr halarms.path, fun c hsafe htripped => ?_⟩,
    fun hsound => ?_, u.trips_raised .esl order, hdrive.links, ⟨hdrive.routers, hdrive.ringWriter, hdrive.repeater⟩,
    ⟨hdrive.loader, hdrive.planSel, hdrive.inReset⟩, hdrive.poll⟩
  · exact State.trips_chan_of_safe (s := u) .esl hnodup (hmem c) hsafe
  · exact State.trips_chan_of_tripped (s := u) .esl hnodup (hmem c) htripped
  · obtain ⟨hchan, hcause, hcaused, hprot⟩ :=
      State.trips_chan_of_not_halted (s := u) .esl hnodup (hmem c) (not_or.mpr ⟨hsafe, htripped⟩)
    have houtputs : ((u.trips .esl order).chan c).outputs = (false, false, 0) :=
      Channel.outputs_of_not_moving (by rw [hchan]; rfl)
    rw [halarms.merged c] at hchan
    refine ⟨hchan, hcause, hcaused, fun hsound => ?_, houtputs⟩
    have hguards := State.guardsHeld_of_sound hsound
    exact hprot ⟨hguards.judged, hguards.guarded⟩
  · exact (s.eslAsserts_keepsDrive (State.driveHeld_of_sound hsound (State.running_inReset hrun))).judged

end Sys2Proof.Machine
end

section
/-! The take counters and the cause set that a read of LIVE words takes (O55). -/

namespace Sys2Proof.Machine

/-! ### Reading and setting a counter (R163) -/

/-- The three blocks that hold the counters of a link: its Link Controller, its Receive Router, its Send Controller. -/
def State.linkBlocks (s : State) (l : LinkId) : LinkCtl × Router × SendCtl := (s.link l, s.router l, s.sender l)

/-- A counter of a link, read from the link's blocks. -/
def LinkCounter.read (x : LinkCounter) (b : LinkCtl × Router × SendCtl) : Counter :=
  match x with
  | .shape => b.1.shape
  | .check => b.1.check
  | .noConfirm => b.1.noConfirm
  | .clash => b.1.clash
  | .stuck => b.1.stuck
  | .sent => b.1.sent
  | .received => b.1.received
  | .unrouted => b.2.1.unrouted
  | .overruns => b.2.1.overruns
  | .mergedAsks => b.2.2.mergedAsks

/-- The blocks of a link with one of its counters set. -/
def LinkCounter.write (x : LinkCounter) (v : Counter) (b : LinkCtl × Router × SendCtl) : LinkCtl × Router × SendCtl :=
  match x with
  | .shape => ({ b.1 with shape := v }, b.2)
  | .check => ({ b.1 with check := v }, b.2)
  | .noConfirm => ({ b.1 with noConfirm := v }, b.2)
  | .clash => ({ b.1 with clash := v }, b.2)
  | .stuck => ({ b.1 with stuck := v }, b.2)
  | .sent => ({ b.1 with sent := v }, b.2)
  | .received => ({ b.1 with received := v }, b.2)
  | .unrouted => (b.1, { b.2.1 with unrouted := v }, b.2.2)
  | .overruns => (b.1, { b.2.1 with overruns := v }, b.2.2)
  | .mergedAsks => (b.1, b.2.1, { b.2.2 with mergedAsks := v })

/-- The counters of a link lie in fields of their own. -/
theorem LinkCounter.read_write (x y : LinkCounter) (v : Counter) (b : LinkCtl × Router × SendCtl) :
    x.read (y.write v b) = if x = y then v else x.read b := by cases y <;> cases x <;> rfl

theorem TakeCounter.get_link (l : LinkId) (x : LinkCounter) (s : State) :
    (TakeCounter.link l x).get s = x.read (s.linkBlocks l) := by cases x <;> rfl

theorem TakeCounter.set_link_linkBlocks (m : LinkId) (y : LinkCounter) (v : Counter) (s : State) (l : LinkId) :
    ((TakeCounter.link m y).set v s).linkBlocks l = if m = l then y.write v (s.linkBlocks l) else s.linkBlocks l := by
  by_cases h : m = l
  · subst h
    rw [if_pos rfl]
    cases y with
    | unrouted | overruns => exact congrArg (fun q => (s.link m, q, s.sender m)) (look_update_self _ _ _)
    | mergedAsks => exact congrArg (fun q => (s.link m, s.router m, q)) (look_update_self _ _ _)
    | _ => exact congrArg (fun q => (q, s.router m, s.sender m)) (look_update_self _ _ _)
  · rw [if_neg h]
    cases y with
    | unrouted | overruns => exact congrArg (fun q => (s.link l, q, s.sender l)) (look_update_of_ne _ _ h)
    | mergedAsks => exact congrArg (fun q => (s.link l, s.router l, q)) (look_update_of_ne _ _ h)
    | _ => exact congrArg (fun q => (q, s.router l, s.sender l)) (look_update_of_ne _ _ h)

theorem TakeCounter.get_set_self (k : TakeCounter) (v : Counter) (s : State) : k.get (k.set v s) = v := by
  cases k with
  | withheld | memoryErrors | repeaterLate => rfl
  | link l x => rw [TakeCounter.get_link, TakeCounter.set_link_linkBlocks, if_pos rfl, x.read_write, if_pos rfl]
  | overflows r => exact congrArg Ring.overflows (s.ring_modRing_self r _)
  | refused c => exact congrArg Channel.refused (s.chan_modChan_self c _)
  | warnings c => exact congrArg Protection.warnings (s.prot_modProt_self c _)
  | alarmsMerged c => exact congrArg Channel.alarmsMerged (s.chan_modChan_self c _)

/-- A counter keeps its value when another one is set: it lies in another block, in a record of another number, or in
another field of the same record. -/
theorem TakeCounter.get_set_ne {k j : TakeCounter} (h : k ≠ j) (v : Counter) (s : State) : k.get (j.set v s) = k.get s := by
  cases j with
  | withheld =>
    cases k with
    | withheld => exact absurd rfl h
    | link l x => cases x <;> rfl
    | _ => rfl
  | memoryErrors =>
    cases k with
    | memoryErrors => exact absurd rfl h
    | link l x => cases x <;> rfl
    | _ => rfl
  | repeaterLate =>
    cases k with
    | repeaterLate => exact absurd rfl h
    | link l x => cases x <;> rfl
    | _ => rfl
  | link m y =>
    cases k with
    | link l x =>
      rw [TakeCounter.get_link, TakeCounter.get_link, TakeCounter.set_link_linkBlocks]
      split
      next hml => exact (x.read_write y v _).trans (if_neg fun hxy => h (by rw [hml, hxy]))
      next => rfl
    | _ => cases y <;> rfl
  | overflows q =>
    cases k with
    | overflows r => exact congrArg Ring.overflows (look_update_of_ne _ _ fun hqr => h (congrArg _ hqr.symm))
    | link l x => cases x <;> rfl
    | _ => rfl
  | refused d =>
    cases k with
    | refused c => exact congrArg Channel.refused (look_update_of_ne _ _ fun hdc => h (congrArg _ hdc.symm))
    | alarmsMerged c =>
      show ((s.modChan d _).chan c).alarmsMerged = _
      rw [State.chan_modChan]
      split <;> rfl
    | link l x => cases x <;> rfl
    | _ => rfl
  | warnings d =>
    cases k with
    | warnings c => exact congrArg Protection.warnings (look_update_of_ne _ _ fun hdc => h (congrArg _ hdc.symm))
    | link l x => cases x <;> rfl
    | _ => rfl
  | alarmsMerged d =>
    cases k with
    | alarmsMerged c => exact congrArg Channel.alarmsMerged (look_update_of_ne _ _ fun hdc => h (congrArg _ hdc.symm))
    | refused c =>
      show ((s.modChan d _).chan c).refused = _
      rw [State.chan_modChan]
      split <;> rfl
    | link l x => cases x <;> rfl
    | _ => rfl

/-- What holds no counter, beside what `takeWords_kept`, `takeWords_polls` and `Steady` say: the causes, the withheld-write
address, the Repeater and the trip records. -/
structure CountersOnly (s t : State) : Prop where
  causes : t.status.causes = s.status.causes
  lastWithheld : t.status.lastWithheld = s.status.lastWithheld
  repeater : t.repeater = s.repeater
  trip : ∀ c, (t.prot c).trip = (s.prot c).trip

theorem CountersOnly.refl (s : State) : CountersOnly s s := ⟨rfl, rfl, rfl, fun _ => rfl⟩

theorem CountersOnly.trans {s t u : State} (h : CountersOnly s t) (k : CountersOnly t u) : CountersOnly s u :=
  ⟨k.causes.trans h.causes, k.lastWithheld.trans h.lastWithheld, k.repeater.trans h.repeater,
    fun c => (k.trip c).trans (h.trip c)⟩

theorem TakeCounter.set_countersOnly (k : TakeCounter) (v : Counter) (s : State) : CountersOnly s (k.set v s) := by
  cases k with
  | link l x => cases x <;> exact ⟨rfl, rfl, rfl, fun _ => rfl⟩
  | warnings d =>
    refine ⟨rfl, rfl, rfl, fun c => ?_⟩
    show ((s.modProt d _).prot c).trip = _
    rw [State.prot_modProt]
    split <;> rfl
  | _ => exact ⟨rfl, rfl, rfl, fun _ => rfl⟩

/-! ### Counters taken (R165) -/

theorem TakeCounter.mem_all (k : TakeCounter) : k ∈ TakeCounter.all := by
  cases k with
  | link l x => cases x <;> simp [TakeCounter.all, LinkCounter.all]
  | _ => simp [TakeCounter.all]

theorem TakeCounter.all_nodup : TakeCounter.all.Nodup := by decide

/-- Counters reduced, one after the other, by what `s` presented for them. -/
def State.reduced (s : State) (ks : List TakeCounter) (t : State) : State :=
  ks.foldl (fun t k => t.takeCounter (k.get s) k) t

theorem State.reduced_cons (s : State) (k : TakeCounter) (ks : List TakeCounter) (t : State) :
    s.reduced (k :: ks) t = s.reduced ks (k.set (k.get t - k.get s) t) := rfl

theorem State.reduced_get (s : State) {ks : List TakeCounter} (hks : ks.Nodup) (t : State) (k : TakeCounter) :
    k.get (s.reduced ks t) = if k ∈ ks then k.get t - k.get s else k.get t := by
  induction ks generalizing t with
  | nil => exact (if_neg List.not_mem_nil).symm
  | cons j ks ih =>
    obtain ⟨hj, hks⟩ := List.nodup_cons.mp hks
    rw [State.reduced_cons, ih hks]
    by_cases hkj : k = j
    · subst hkj
      rw [if_neg hj, if_pos List.mem_cons_self, k.get_set_self]
    · simp only [TakeCounter.get_set_ne hkj, List.mem_cons, hkj, false_or]

theorem State.reduced_countersOnly (s : State) (ks : List TakeCounter) (t : State) : CountersOnly t (s.reduced ks t) := by
  induction ks generalizing t with
  | nil => exact .refl t
  | cons k ks ih => exact (k.set_countersOnly _ t).trans (ih _)

/-- The take counters in words of the LIVE page. -/
def countersIn (ws : List Nat) : List TakeCounter := TakeCounter.all.filter fun k => ws.contains k.liveWord

theorem mem_countersIn {ws : List Nat} {k : TakeCounter} : k ∈ countersIn ws ↔ k.liveWord ∈ ws := by
  rw [countersIn, List.mem_filter, and_iff_right k.mem_all, List.contains_iff_mem]

theorem countersIn_nodup (ws : List Nat) : (countersIn ws).Nodup := TakeCounter.all_nodup.filter _

/-- The reductions of a read, and then its causes. -/
theorem State.takeWords_eq (s : State) (ws : List Nat) : s.takeWords ws =
    (s.reduced (countersIn ws) s).modStatus fun u =>
      { u with causes := if ws.contains causeSetWord then u.causes &&& ~~~s.status.causes else u.causes } := rfl

theorem TakeCounter.get_modStatus_causes (k : TakeCounter) (s : State) (f : StatusUnit → BitVec 12) :
    k.get (s.modStatus fun u => { u with causes := f u }) = k.get s := by
  cases k with
  | link l x => cases x <;> rfl
  | _ => rfl

theorem State.takeWords_get (s : State) (ws : List Nat) (k : TakeCounter) :
    k.get (s.takeWords ws) = if k.liveWord ∈ ws then 0 else k.get s := by
  rw [s.takeWords_eq, k.get_modStatus_causes, s.reduced_get (countersIn_nodup ws), BitVec.sub_self]
  simp only [mem_countersIn, BitVec.ofNat_eq_ofNat]

theorem State.takeWords_causes (s : State) (ws : List Nat) :
    (s.takeWords ws).status.causes = if causeSetWord ∈ ws then 0 else s.status.causes := by
  rw [s.takeWords_eq, State.modStatus_status, (s.reduced_countersOnly _ s).causes, BitVec.and_not_self]
  simp only [List.contains_iff_mem]

theorem State.takeWords_rest (s : State) (ws : List Nat) :
    (s.takeWords ws).status.lastWithheld = s.status.lastWithheld ∧ (s.takeWords ws).repeater = s.repeater
      ∧ ∀ c, ((s.takeWords ws).prot c).trip = (s.prot c).trip := by
  have hkept := s.reduced_countersOnly (countersIn ws) s
  exact ⟨hkept.lastWithheld, hkept.repeater, hkept.trip⟩

/-! ### The words a take covers (R164) -/

theorem mem_liveCovered {rs : List WordRef} {k : Nat} : k ∈ liveCovered rs ↔ WordRef.live .active k ∈ rs := by
  rw [liveCovered, List.mem_filterMap]
  constructor
  · rintro ⟨r, hr, hk⟩
    split at hk
    next w => exact Option.some.inj hk ▸ hr
    next => cases hk
  · exact fun h => ⟨_, h, rfl⟩

/-- A read of ACTIVE LIVE words alone queues no poll. -/
theorem State.readActions_of_live (s : State) {rs : List WordRef} (h : ∀ r ∈ rs, ∃ k, r = .live .active k) :
    s.readActions rs = s.takeWords (liveCovered rs) := by
  have hecho : echoCovered rs = [] := by
    refine List.eq_nil_iff_forall_not_mem.mpr fun p hp => ?_
    obtain ⟨v, hv⟩ := mem_echoCovered.mp hp
    obtain ⟨k, hk⟩ := h _ hv
    cases hk
  rw [State.readActions, hecho]
  rfl

theorem readTransfer_eq {p : Plan} {k : WindowKind} {w n : Nat} {id : TransferId} {x : Transfer}
    (h : readTransfer p k w n id = some x) : x.id = id ∧ x.op = .read n := by
  obtain ⟨a, -, rfl⟩ := Option.map_eq_some_iff.mp h
  exact ⟨rfl, rfl⟩

theorem exec_take_taken {w : Fin 128} {n : Nat} {id : TransferId} {x : Transfer} {s : State} (hpos : 1 ≤ n)
    (hmax : n ≤ 16) (hnow : s.takesNow = true) (hx : readTransfer s.plan (.live .active) w.val n id = some x) :
    exec (.take w n id) s = .next
      ((s.readActions (s.refsOf x)).withEntry (newEntry x (s.dispositions x) (s.snapshotOf x) [])) := by
  obtain ⟨-, hop⟩ := readTransfer_eq hx
  have hcount : beatCountOk n = true := by simp [beatCountOk, hpos, hmax]
  show (if beatCountOk n then Host.Outcome.next (s.request (readTransfer s.plan (.live .active) w.val n id))
    else .refused Refusal.illFormed) = _
  rw [if_pos hcount, hx]
  exact congrArg Host.Outcome.next (State.read_taken hop hnow)

theorem TakeCounter.get_withEntry (k : TakeCounter) (s : State) (e : OrderEntry) : k.get (s.withEntry e) = k.get s := by
  cases k with
  | link l x => cases x <;> rfl
  | _ => rfl

/-- Settles O55: the counters by `takeWords_get`, the causes by `takeWords_causes`. -/
theorem takeClearsWhatItReturns : Obligations.TakeClearsWhatItReturns := by
  intro w n id x s hpos hmax hnow hx hlive
  let words := liveCovered (s.refsOf x)
  obtain ⟨hid, hop⟩ := readTransfer_eq hx
  obtain ⟨hpath, -, hreset, hsel, hloader⟩ := s.takeWords_kept words
  obtain ⟨hlast, hrepeater, htrip⟩ := s.takeWords_rest words
  have hsteady := s.takeWords_steady words
  have hcauses := s.takeWords_causes words
  have hsnapshot : s.snapshotOf x = (s.refsOf x).map s.present := by rw [State.snapshotOf, hop]
  have hread : isWriteTransfer x = false := by rw [isWriteTransfer, hop]
  have hexec := exec_take_taken hpos hmax hnow hx
  rw [s.readActions_of_live hlive] at hexec
  refine ⟨_, newEntry x (s.dispositions x) (s.snapshotOf x) [], hexec, ?_, hid, hread, hsnapshot, fun k => ?_, fun h => ?_,
    fun h => ?_, s.takeWords_stamp words, hlast, hsteady.esl, hsteady.guards, (s.takeWords_polls words).1, hrepeater,
    ⟨hloader, hsel, hreset⟩, fun c => ⟨(hsteady.channels c).state, htrip c⟩⟩
  · rw [State.withEntry, State.withEntry, State.modPath_path, State.modPath_path, hpath]
  · rw [k.get_withEntry, s.takeWords_get]
    exact ⟨fun h => if_pos (mem_liveCovered.mpr h), fun h => if_neg fun hk => h (mem_liveCovered.mp hk)⟩
  · exact hcauses.trans (if_pos (mem_liveCovered.mpr h))
  · exact hcauses.trans (if_neg fun hk => h (mem_liveCovered.mp hk))

end Sys2Proof.Machine
end

section
/-! The attention line (O56): the causes that are set and masked, and the pulses of PULSE mode. -/

namespace Sys2Proof.Machine

/-! ### Causes as bits of a set (R166, R168) -/

theorem Cause.and_bit_ne_zero_iff (u : BitVec 12) (c : Cause) : u &&& c.bit ≠ 0 ↔ u.getLsbD c.code = true := by
  have hand : u &&& c.bit = if u.getLsbD c.code then c.bit else 0#12 := BitVec.and_twoPow u c.code
  rw [hand]
  split
  next h => exact iff_of_true c.bit_ne_zero h
  next h => exact iff_of_false (not_not.mpr rfl) h

theorem Cause.exists_code {n : Nat} (h : n < 12) : ∃ c : Cause, c.code = n := by
  have hall : ∀ i : Fin 12, ∃ c ∈ [Cause.plan, .sent, .received, .overflow, .link, .pollLate, .trip, .currentWarn, .watch,
      .stopped, .memory, .withheld], c.code = i.val := by decide
  obtain ⟨c, -, hc⟩ := hall ⟨n, h⟩
  exact ⟨c, hc⟩

/-- Two sets of causes meet in the bit of a cause. -/
theorem Cause.and_ne_zero_iff (u v : BitVec 12) : u &&& v ≠ 0 ↔ ∃ c : Cause, u &&& c.bit ≠ 0 ∧ v &&& c.bit ≠ 0 := by
  simp only [Cause.and_bit_ne_zero_iff]
  constructor
  · intro h
    by_contra hnone
    refine h (BitVec.eq_of_getLsbD_eq fun i hi => ?_)
    obtain ⟨c, rfl⟩ := Cause.exists_code hi
    rw [BitVec.getLsbD_and]
    exact (Bool.eq_false_iff.mpr fun hboth => hnone ⟨c, Bool.and_eq_true_iff.mp hboth⟩).trans BitVec.getLsbD_zero.symm
  · rintro ⟨c, hu, hv⟩ hzero
    have hbit : (u &&& v).getLsbD c.code = true := by rw [BitVec.getLsbD_and, hu, hv]; rfl
    rw [hzero] at hbit
    exact Bool.false_ne_true (BitVec.getLsbD_zero.symm.trans hbit)

theorem State.caused_iff (s : State) (c : Cause) : s.caused c = true ↔ s.status.causes &&& c.bit ≠ 0 := bne_iff_ne

/-! ### Pulses that begin at raisings (R169) -/

/-- The raising of a cause brings a pulse: in PULSE mode, if the cause was clear and is masked. -/
def StatusUnit.pulsesAt (u : StatusUnit) (mask : BitVec 12) (mode : LineMode) (c : Cause) : Bool :=
  u.causes &&& c.bit == 0 && mask &&& c.bit != 0 && mode == .pulse

section
variable {u : StatusUnit} {mask : BitVec 12} {mode : LineMode} {c : Cause}

theorem StatusUnit.pulsesAt_iff :
    u.pulsesAt mask mode c = true ↔ u.causes &&& c.bit = 0 ∧ mask &&& c.bit ≠ 0 ∧ mode = .pulse := by
  rw [StatusUnit.pulsesAt, Bool.and_eq_true, Bool.and_eq_true, beq_iff_eq, bne_iff_ne, beq_iff_eq, and_assoc]

theorem StatusUnit.raise_eq : u.raise mask mode c =
    { u with
      causes := u.causes ||| c.bit
      pulse := if u.pulsesAt mask mode c && u.pulse == .idle then .asserted else u.pulse
      pulsesOwed := if u.pulsesAt mask mode c && u.pulse != .idle then satInc u.pulsesOwed else u.pulsesOwed } := rfl

/-- On an idle line the pulse begins. -/
theorem StatusUnit.raise_begins (h : u.pulsesAt mask mode c = true) (hidle : u.pulse = .idle) :
    u.raise mask mode c = { u with causes := u.causes ||| c.bit, pulse := .asserted } := by
  rw [StatusUnit.raise_eq, h, hidle]
  rfl

/-- On a busy line the pulse is owed. -/
theorem StatusUnit.raise_owes (h : u.pulsesAt mask mode c = true) (hbusy : u.pulse ≠ .idle) :
    u.raise mask mode c = { u with causes := u.causes ||| c.bit, pulsesOwed := satInc u.pulsesOwed } := by
  rw [StatusUnit.raise_eq, h, Bool.true_and, Bool.true_and, if_neg (by rwa [beq_iff_eq]), if_pos (bne_iff_ne.mpr hbusy)]

theorem StatusUnit.raise_quiet (h : u.pulsesAt mask mode c = false) :
    u.raise mask mode c = { u with causes := u.causes ||| c.bit } := by
  rw [StatusUnit.raise_eq, h]
  rfl

end

/-! ### The line's own times (R169) -/

theorem exec_attentionPulseEnd {s : State} (hrun : s.running = true) :
    exec .attentionPulseEnd s = .next { s with status := s.status.pulseEnds } :=
  congrArg Host.Outcome.next (State.event_samePath hrun rfl)

theorem exec_attentionGapEnd {s : State} (hrun : s.running = true) :
    exec .attentionGapEnd s = .next { s with status := s.status.gapEnds } :=
  congrArg Host.Outcome.next (State.event_samePath hrun rfl)

theorem StatusUnit.pulseEnds_asserted {u : StatusUnit} (h : u.pulse = .asserted) :
    u.pulseEnds = { u with pulse := .deasserted } := by
  rw [StatusUnit.pulseEnds, if_pos h]

theorem StatusUnit.gapEnds_idle {u : StatusUnit} (h : u.pulse = .deasserted) (howed : u.pulsesOwed = 0) :
    u.gapEnds = { u with pulse := .idle } := by
  rw [StatusUnit.gapEnds, if_pos h, if_pos howed, if_neg fun hn => hn.2 howed]

theorem StatusUnit.gapEnds_owed {u : StatusUnit} (h : u.pulse = .deasserted) (howed : u.pulsesOwed ≠ 0) :
    u.gapEnds = { u with pulse := .asserted, pulsesOwed := u.pulsesOwed - 1 } := by
  rw [StatusUnit.gapEnds, if_pos h, if_neg howed, if_pos ⟨h, howed⟩]

/-! ### The line (R168 to R170) -/

section
variable {s : State}

theorem State.attention_of_reset (h : s.inReset = true) : s.attention = false := by rw [State.attention, h]; rfl

theorem State.attention_level (hreset : s.inReset = false) (hmode : s.plan.lineMode = .level) :
    s.attention = true ↔ ∃ c : Cause, s.caused c = true ∧ s.plan.attentionMask &&& c.bit ≠ 0 := by
  simp only [State.caused_iff]
  rw [← Cause.and_ne_zero_iff, State.attention, hreset, hmode]
  exact bne_iff_ne

theorem State.attention_pulse (hreset : s.inReset = false) (hmode : s.plan.lineMode = .pulse) :
    s.attention = true ↔ s.status.pulse = .asserted := by
  rw [State.attention, hreset, hmode]
  exact beq_iff_eq

theorem State.attention_iff : s.attention = true ↔ s.inReset = false
    ∧ ((s.plan.lineMode = .level ∧ ∃ c : Cause, s.caused c = true ∧ s.plan.attentionMask &&& c.bit ≠ 0)
      ∨ (s.plan.lineMode = .pulse ∧ s.status.pulse = .asserted)) := by
  cases hreset : s.inReset with
  | true => simp [State.attention_of_reset hreset]
  | false =>
    cases hmode : s.plan.lineMode with
    | level => simp [State.attention_level hreset hmode]
    | pulse => simp [State.attention_pulse hreset hmode]

end

/-! ### A plan that comes into force (R169) -/

theorem StatusUnit.lineModeChange_same (u : StatusUnit) (mode : LineMode) : u.lineModeChange mode mode = u := by
  rw [StatusUnit.lineModeChange, if_pos rfl, if_pos rfl]

theorem StatusUnit.lineModeChange_ne (u : StatusUnit) {old new : LineMode} (h : old ≠ new) :
    u.lineModeChange old new = { u with pulse := .idle, pulsesOwed := 0 } := by
  rw [StatusUnit.lineModeChange, if_neg h, if_neg h]

theorem State.switchPlan_status (s : State) (q : Plan) :
    (s.switchPlan q).status = s.status.lineModeChange s.plan.lineMode q.lineMode := rfl

/-- Settles O56: the line by `attention_iff`, the pulses by what `raise`, the two ends and a change of mode make of the
Status Unit. -/
theorem attentionPulsesBeginAndFollow : Obligations.AttentionPulsesBeginAndFollow := by
  refine ⟨fun u mask mode c => ⟨rfl, ?_, fun hquiet => ?_⟩, fun s hrun => ⟨fun h => ?_, fun h howed => ?_, fun h howed => ?_⟩,
    fun s => s.attention_iff, fun s c hreset hmode hmasked => ?_, fun s q hreset => ⟨rfl, ?_, ?_, ?_, ?_⟩⟩
  · rintro rfl hclear hmasked
    have hpulse := StatusUnit.pulsesAt_iff.mpr ⟨hclear, hmasked, rfl⟩
    refine ⟨fun hidle => ?_, fun hbusy => ?_⟩
    · rw [StatusUnit.raise_begins hpulse hidle]
      exact ⟨rfl, rfl⟩
    · rw [StatusUnit.raise_owes hpulse hbusy]
      exact ⟨rfl, rfl⟩
  · have hnone : u.pulsesAt mask mode c = false := by
      refine Bool.eq_false_iff.mpr fun hpulse => ?_
      obtain ⟨hclear, hmasked, rfl⟩ := StatusUnit.pulsesAt_iff.mp hpulse
      obtain hlevel | hset | hunmasked := hquiet
      · cases hlevel
      · exact hset hclear
      · exact hmasked hunmasked
    rw [StatusUnit.raise_quiet hnone]
    exact ⟨rfl, rfl⟩
  · rw [exec_attentionPulseEnd hrun, StatusUnit.pulseEnds_asserted h]
  · rw [exec_attentionGapEnd hrun, StatusUnit.gapEnds_idle h howed]
  · rw [exec_attentionGapEnd hrun, StatusUnit.gapEnds_owed h howed]
  · exact (State.attention_level (s := s.raise c) hreset hmode).mpr ⟨c, s.raise_caused c, hmasked⟩
  · exact fun hmode => State.attention_level (s := s.switchPlan q) hreset hmode
  · intro hold hnew
    have hchange : s.plan.lineMode ≠ q.lineMode := by rw [hold, hnew]; exact nofun
    rw [Bool.eq_false_iff, ne_eq, State.attention_pulse (s := s.switchPlan q) hreset hnew, s.switchPlan_status,
      StatusUnit.lineModeChange_ne _ hchange]
    exact nofun
  · intro hchange
    rw [s.switchPlan_status, StatusUnit.lineModeChange_ne _ hchange]
    exact ⟨rfl, rfl⟩
  · intro hsame
    rw [s.switchPlan_status, hsame, StatusUnit.lineModeChange_same]
    exact ⟨rfl, rfl⟩

end Sys2Proof.Machine
end

section
/-! The Repeater's cycles and the frames that follow each other (O57, O59). -/

namespace Sys2Proof.Machine

/-! ### A frame that begins (R173, R174) -/

/-- The frame of the present position goes out with its data and takes the frame number. -/
def Repeater.sends (r : Repeater) (rate : RepeaterRate) (memerr : Bool) (data : List Byte) : Repeater :=
  { r with
    frame := .sending ⟨rate, frameBytes r.number r.position memerr data, 0⟩
    number := r.number + 1 }

/-- The frame of the present position waits for its reads. -/
def Repeater.gathers (r : Repeater) (reads : List Request) : Repeater :=
  { r with
    frame := .awaiting r.gatherSerial (reads.map fun q => ⟨q.beats, none, false⟩)
    gatherSerial := r.gatherSerial + 1 }

/-- With no frame finishing, data that is ready goes out at once. -/
theorem Repeater.ready_of_free {r : Repeater} (h : r.finishing = none) (rate : RepeaterRate) (memerr : Bool)
    (data : List Byte) : r.ready rate memerr data = r.sends rate memerr data := by
  rw [Repeater.ready, if_neg (by rw [h]; exact Bool.false_ne_true)]
  rfl

/-! ### The reads of a memory range (R18, R173) -/

/-- Requests submitted one after the other stand in that order. -/
theorem State.foldl_submit (rs : List Request) (s : State) :
    rs.foldl State.submit s = s.modPath fun p => { p with staged := p.staged ++ rs } := by
  induction rs generalizing s with
  | nil => simp [State.modPath]
  | cons r rs ih => simp [ih, State.submit, State.modPath]

theorem State.submitCover_rangeReads (s : State) (g : Nat) (start : Addr) (len : Nat) :
    s.submitCover g start (coverReads (coverWords start len)) =
      s.modPath fun p => { p with staged := p.staged ++ rangeReads g start len } := by
  rw [← State.foldl_submit, rangeReads_eq_cover, List.foldl_map]
  rfl

theorem rangeReads_beats (g : Nat) (start : Addr) (len : Nat) :
    (rangeReads g start len).map Request.beats = coverReads (coverWords start len) := by
  unfold rangeReads coverReads coverWords
  dsimp only
  split <;> rfl

/-- The reads of one range join in the order submitted: they are of one producer. -/
theorem joinOrder_rangeReads (g : Nat) (start : Addr) (len : Nat) :
    joinOrder (rangeReads g start len) = rangeReads g start len := by
  unfold rangeReads
  dsimp only
  split <;> rfl

/-- An event that has submitted requests ends with them joining in their order. -/
theorem State.commit_staged {s : State} (h : s.path.staged = []) (rs : List Request) :
    (s.modPath fun p => { p with staged := p.staged ++ rs }).commit =
      { s with path := (joinOrder rs).foldl Path.join s.path } := by
  have hpath : ({ s.path with staged := [] } : Path) = s.path := by rw [← h]
  show { s with path := (joinOrder (s.path.staged ++ rs)).foldl Path.join { s.path with staged := [] } } = _
  rw [hpath, h, List.nil_append]

/-! ### A frame that falls due (R173) -/

section
variable {s : State} {p : Presented} {start : Addr} {len : Nat} {src : Source} {srcs : List Source}

theorem State.commit_frameDue_presented (hstaged : s.path.staged = []) (hsrc : s.presentSource = some (.presented p))
    (hfree : s.repeater.finishing = none) : s.frameDue.commit =
      { s with repeater := s.repeater.sends s.plan.repeater.rate false (s.recordBytes p) } := by
  have hdue : s.frameDue = { s with repeater := s.repeater.sends s.plan.repeater.rate false (s.recordBytes p) } := by
    rw [State.frameDue, hsrc, ← Repeater.ready_of_free hfree]
    rfl
  rw [hdue]
  exact State.commit_of_empty _ hstaged

theorem State.commit_frameDue_memory (hstaged : s.path.staged = [])
    (hsrc : s.presentSource = some (.memory start len)) : s.frameDue.commit =
      { s with
        path := (rangeReads s.repeater.gatherSerial start len).foldl Path.join s.path
        repeater := s.repeater.gathers (rangeReads s.repeater.gatherSerial start len) } := by
  have hdue : s.frameDue =
      (s.modRepeater fun r => r.gathers (rangeReads s.repeater.gatherSerial start len)).modPath fun q =>
        { q with staged := q.staged ++ rangeReads s.repeater.gatherSerial start len } := by
    rw [State.frameDue, hsrc]
    dsimp only
    rw [State.submitCover_rangeReads, ← rangeReads_beats s.repeater.gatherSerial start len, List.map_map]
    rfl
  rw [hdue, State.commit_staged (s := s.modRepeater _) hstaged, joinOrder_rangeReads]
  rfl

/-! ### A cycle that begins (R172) -/

/-- With no source in use a cycle ends at the event that begins it. -/
theorem State.beginCycle_nil (h : s.plan.repeater.sources = []) :
    s.beginCycle = s.modRepeater fun r => { r with cycle := .idle, position := 0 } := by
  have hnone : (s.modRepeater fun r => { r with cycle := .idle, position := 0 }).presentSource = none :=
    (congrArg (·[0]?) h).trans rfl
  rw [State.beginCycle, if_pos h, State.frameDue, hnone]

theorem State.beginCycle_cons (h : s.plan.repeater.sources = src :: srcs) :
    s.beginCycle = (s.modRepeater fun r => { r with cycle := .cycling, position := 0 }).frameDue := by
  rw [State.beginCycle, if_neg (h ▸ List.cons_ne_nil src srcs)]

theorem State.presentSource_first (h : s.plan.repeater.sources = src :: srcs) (cycle : CycleState) :
    (s.modRepeater fun r => { r with cycle := cycle, position := 0 }).presentSource = some src :=
  (congrArg (·[0]?) h).trans rfl

theorem State.commit_beginCycle_presented (hstaged : s.path.staged = [])
    (h : s.plan.repeater.sources = .presented p :: srcs) (hfree : s.repeater.finishing = none) :
    s.beginCycle.commit =
      { s with
        repeater := ({ s.repeater with cycle := .cycling, position := 0 } : Repeater).sends s.plan.repeater.rate false
          (s.recordBytes p) } := by
  rw [State.beginCycle_cons h]
  exact State.commit_frameDue_presented (s := s.modRepeater _) hstaged (State.presentSource_first h _) hfree

theorem State.commit_beginCycle_memory (hstaged : s.path.staged = [])
    (h : s.plan.repeater.sources = .memory start len :: srcs) : s.beginCycle.commit =
      { s with
        path := (rangeReads s.repeater.gatherSerial start len).foldl Path.join s.path
        repeater := ({ s.repeater with cycle := .cycling, position := 0 } : Repeater).gathers
          (rangeReads s.repeater.gatherSerial start len) } := by
  rw [State.beginCycle_cons h]
  exact State.commit_frameDue_memory (s := s.modRepeater _) hstaged (State.presentSource_first h _)

end

/-! ### The period (R172) -/

section
variable {s : State} {e : Stamp}

/-- The state in which the period timer runs on to its next expiry. -/
def State.nextPeriod (s : State) (e : Stamp) : State :=
  s.modRepeater fun r => { r with timer := some (later e s.plan.repeater.period) }

theorem State.periodExpires_idle (htimer : s.repeater.timer = some e) (hcycle : s.repeater.cycle = .idle) :
    s.periodExpires = (s.nextPeriod e).beginCycle := by
  rw [State.periodExpires, hcycle, State.nextPeriod]
  simp only [State.modRepeater, htimer, Option.map_some]

theorem State.periodExpires_cycling (htimer : s.repeater.timer = some e) (hcycle : s.repeater.cycle = .cycling) :
    s.periodExpires = ((s.nextPeriod e).bump .repeaterLate).modRepeater fun r => { r with owed := true } := by
  rw [State.periodExpires, hcycle, State.nextPeriod]
  simp only [State.modRepeater, htimer, Option.map_some]

theorem exec_repeaterPeriodExpiry (hrun : s.running = true) (htimer : s.repeater.timer = some e)
    (hreached : reached s.now e = true) : exec .repeaterPeriodExpiry s = .next s.periodExpires.commit := by
  have hdue : due s.now s.repeater.timer = true := by rw [htimer]; exact hreached
  exact congrArg Host.Outcome.next ((if_pos hdue).trans (s.event_of_running _ (State.running_inReset hrun)))

end

/-- Settles O57: what `periodExpires` makes of the timer, and the cycle that begins by the kind of its first source. -/
theorem repeaterPeriodBeginsCycle : Obligations.RepeaterPeriodBeginsCycle := by
  intro s e hrun htimer hreached next
  have hstaged : (s.nextPeriod e).path.staged = [] := State.running_staged hrun
  rw [exec_repeaterPeriodExpiry hrun htimer hreached]
  refine ⟨fun hcycle => ?_, fun hcycle hnil => ?_, fun p ps hcycle hcons hfree => ?_,
    fun start len ps hcycle hcons => ?_⟩
  · rw [State.periodExpires_cycling htimer hcycle]
    exact congrArg Host.Outcome.next (State.commit_of_empty _ hstaged)
  all_goals rw [State.periodExpires_idle htimer hcycle]
  · rw [State.beginCycle_nil (s := s.nextPeriod e) hnil, ← hcycle]
    exact congrArg Host.Outcome.next (State.commit_of_empty _ hstaged)
  · exact congrArg Host.Outcome.next (State.commit_beginCycle_presented (s := s.nextPeriod e) hstaged hcons hfree)
  · exact congrArg Host.Outcome.next (State.commit_beginCycle_memory (s := s.nextPeriod e) hstaged hcons)

/-! ### Frames sent (R172, R176) -/

section
variable {s : State} {f : SendingFrame}

theorem exec_frameSent (hrun : s.running = true) (hframe : s.repeater.frame = .sending f) :
    exec .frameSent s = .next s.frameEnds.commit := by
  have hsending : s.repeater.isSending = true := by rw [Repeater.isSending, hframe]
  exact congrArg Host.Outcome.next ((if_pos hsending).trans (s.event_of_running _ (State.running_inReset hrun)))

/-- The state in which no frame is in hand and the source of position `k` is the present one. -/
def State.atPosition (s : State) (k : Nat) : State := s.modRepeater fun r => { r with frame := .none, position := k }

theorem State.frameEnds_next {src : Source} (h : s.plan.repeater.sources[s.repeater.position + 1]? = some src) :
    s.frameEnds = (s.atPosition (s.repeater.position + 1)).frameDue := by
  obtain ⟨hlt, -⟩ := List.getElem?_eq_some_iff.mp h
  exact if_pos hlt

theorem State.frameEnds_idle (hlast : s.plan.repeater.sources.length ≤ s.repeater.position + 1)
    (howed : s.repeater.owed = false) :
    s.frameEnds = s.modRepeater fun r => { r with frame := .none, cycle := .idle } := by
  rw [State.frameEnds, if_neg hlast.not_gt, howed]
  rfl

theorem State.frameEnds_owed (hlast : s.plan.repeater.sources.length ≤ s.repeater.position + 1)
    (howed : s.repeater.owed = true) :
    s.frameEnds = (s.modRepeater fun r => { r with frame := .none, owed := false }).beginCycle := by
  rw [State.frameEnds, if_neg hlast.not_gt, howed]
  rfl

theorem exec_finishingFrameSent (hrun : s.running = true) (hfinishing : s.repeater.finishing = some f) :
    exec .finishingFrameSent s = .next s.finishingEnds := by
  have hsome : s.repeater.finishing.isSome = true := by rw [hfinishing]; rfl
  exact congrArg Host.Outcome.next ((if_pos hsome).trans (State.event_samePath hrun rfl))

/-- With no frame held only the frame finishing goes. -/
theorem State.finishingEnds_alone (h : ∀ b bs, s.repeater.frame ≠ .held b bs) :
    s.finishingEnds = s.modRepeater fun r => { r with finishing := none } := by
  unfold State.finishingEnds State.modRepeater
  cases hframe : s.repeater.frame with
  | held b bs => exact absurd hframe (h b bs)
  | none | awaiting g parts | sending f => simp only [hframe]

theorem State.finishingEnds_held {b : Bool} {bs : List Byte} (h : s.repeater.frame = .held b bs) :
    s.finishingEnds =
      s.modRepeater fun r => ({ r with finishing := none } : Repeater).sends s.plan.repeater.rate b bs := by
  unfold State.finishingEnds State.modRepeater
  simp only [h]
  rfl

end

/-- Settles O59: `frameEnds` by what is left of the cycle, `finishingEnds` by whether a frame is held. -/
theorem framesFollowEachOther : Obligations.FramesFollowEachOther := by
  refine ⟨fun s f hrun hframe => ?_, fun s f hrun hfinishing => ⟨fun hnone => ?_, fun b bs hheld => ?_⟩⟩
  · have hstaged : s.path.staged = [] := State.running_staged hrun
    rw [exec_frameSent hrun hframe]
    refine ⟨fun p hsrc hfree => ?_, fun start len hsrc => ?_, fun hlast howed => ?_, fun hlast howed => ?_⟩
    · rw [State.frameEnds_next hsrc]
      exact congrArg Host.Outcome.next (State.commit_frameDue_presented (s := s.atPosition _) hstaged hsrc hfree)
    · rw [State.frameEnds_next hsrc]
      exact congrArg Host.Outcome.next (State.commit_frameDue_memory (s := s.atPosition _) hstaged hsrc)
    · rw [State.frameEnds_idle hlast howed]
      exact congrArg Host.Outcome.next (State.commit_of_empty _ hstaged)
    · rw [State.frameEnds_owed hlast howed]
      exact ⟨fun p ps hcons hfree => congrArg Host.Outcome.next
          (State.commit_beginCycle_presented (s := s.modRepeater _) hstaged hcons hfree),
        fun start len ps hcons => congrArg Host.Outcome.next
          (State.commit_beginCycle_memory (s := s.modRepeater _) hstaged hcons)⟩
  · rw [exec_finishingFrameSent hrun hfinishing, State.finishingEnds_alone hnone]
    rfl
  · rw [exec_finishingFrameSent hrun hfinishing, State.finishingEnds_held hheld]
    rfl

end Sys2Proof.Machine
end

section
/-! The completions of a frame's reads (O58). -/

namespace Sys2Proof.Machine

/-! ### The data of a frame (R173, R175) -/

theorem cutRange_one (start : Addr) (len n : Nat) (ws : List Word) :
    cutRange start len [⟨n, some ws, true⟩] = ((ws.flatMap bytesOf).drop (start.toNat % 4)).take len := by
  simp [cutRange]

theorem cutRange_two (start : Addr) (len m n : Nat) (ws vs : List Word) :
    cutRange start len [⟨m, some ws, true⟩, ⟨n, some vs, true⟩] =
      (((ws ++ vs).flatMap bytesOf).drop (start.toNat % 4)).take len := by
  simp [cutRange]

section
variable {s : State} {parts : List FramePart} {start : Addr} {len g : Nat}

theorem State.rangeData_memory (hsrc : s.presentSource = some (.memory start len))
    (hokay : (parts.any fun p => p.words.isNone) = false) : s.rangeData parts = some (cutRange start len parts) := by
  rw [State.rangeData, hokay, hsrc]
  rfl

theorem State.rangeData_failed (h : (parts.any fun p => p.words.isNone) = true) : s.rangeData parts = none := by
  rw [State.rangeData, h]
  rfl

/-! ### One read recorded (R173, R175) -/

theorem State.partsRead_waits (h : parts.all (·.done) = false) :
    s.partsRead g parts = { s with repeater := { s.repeater with frame := .awaiting g parts } } := by
  rw [State.partsRead, h]
  rfl

theorem State.partsRead_sends (hdone : parts.all (·.done) = true) (hfree : s.repeater.finishing = none)
    (hsrc : s.presentSource = some (.memory start len)) (hokay : (parts.any fun p => p.words.isNone) = false) :
    s.partsRead g parts =
      { s with repeater := s.repeater.sends s.plan.repeater.rate false (cutRange start len parts) } := by
  rw [State.partsRead, hdone, State.rangeData_memory hsrc hokay, ← Repeater.ready_of_free hfree]
  rfl

theorem State.partsRead_memerr (hdone : parts.all (·.done) = true) (hfree : s.repeater.finishing = none)
    (hfailed : (parts.any fun p => p.words.isNone) = true) :
    s.partsRead g parts = { s with repeater := s.repeater.sends s.plan.repeater.rate true [] } := by
  rw [State.partsRead, hdone, State.rangeData_failed hfailed, ← Repeater.ready_of_free hfree]
  rfl

end

/-! ### The completion of a read the frame in hand waits for (R19, R175) -/

/-- The end of an internal transfer is no event of the Repeater and changes no plan. -/
theorem State.complete_repeater_plan (s : State) (nth : Nat) (code : DownCode) :
    (s.complete nth code).repeater = s.repeater ∧ (s.complete nth code).plan = s.plan := by
  cases code <;> exact ⟨rfl, rfl⟩

theorem State.complete_presentSource (s : State) (nth : Nat) (code : DownCode) :
    (s.complete nth code).presentSource = s.presentSource := by
  cases code <;> rfl

/-- The transfer `nth` in flight is read `part` of the frame in hand, which waits for `parts`, and has as many beats as `data`
has words. -/
structure State.AwaitsRead (s : State) (nth g part : Nat) (parts : List FramePart) (data : List Word) : Prop where
  running  : s.running = true
  inFlight : ∃ r, s.path.inFlight[nth]? = some r ∧ r.purpose = .repeaterRead g part ∧ r.beats = data.length
  frame    : s.repeater.frame = .awaiting g parts

namespace State.AwaitsRead
variable {s : State} {nth g part : Nat} {parts done : List FramePart} {code : DownCode} {data : List Word}

/-- Its completion is recorded. -/
theorem exec_eq (h : s.AwaitsRead nth g part parts data) (hdone : (parts.modify part fun p => p.finish code data) = done) :
    exec (.repeaterReadComplete nth code data) s = .next ((s.complete nth code).partsRead g done) := by
  have heffect : s.repeaterReadCompletes nth code data = (s.complete nth code).partsRead g done := by
    obtain ⟨r, hr, hpurpose, hbeats⟩ := h.inFlight
    have hanswered : s.answeredPurpose nth code data.length = some (.repeaterRead g part) := by
      simp [State.answeredPurpose, Path.answered, hr, hbeats, hpurpose]
    obtain ⟨hrepeater, -⟩ := s.complete_repeater_plan nth code
    rw [State.repeaterReadCompletes, hanswered]
    dsimp only
    rw [State.rangeRead, hrepeater, h.frame, ← hdone]
    exact if_pos rfl
  refine congrArg Host.Outcome.next ((s.event_eq _ h.running ?_).trans heffect)
  rw [heffect]
  exact (congrArg Path.staged (s.complete_path nth code)).trans (State.running_staged h.running)

/-- With another read still to complete this one is only recorded. -/
theorem waits (h : s.AwaitsRead nth g part parts data) (hdone : (parts.modify part fun p => p.finish code data) = done)
    (hmore : done.all (·.done) = false) :
    exec (.repeaterReadComplete nth code data) s =
      .next { s.complete nth code with repeater := { s.repeater with frame := .awaiting g done } } := by
  obtain ⟨hrepeater, -⟩ := s.complete_repeater_plan nth code
  rw [h.exec_eq hdone, State.partsRead_waits hmore, hrepeater]

/-- The last read, with every read OKAY. -/
theorem sends {start : Addr} {len : Nat} {bs : List Byte} (h : s.AwaitsRead nth g part parts data)
    (hdone : (parts.modify part fun p => p.finish code data) = done) (hlast : done.all (·.done) = true)
    (hfree : s.repeater.finishing = none) (hsrc : s.presentSource = some (.memory start len))
    (hokay : (done.any fun p => p.words.isNone) = false) (hcut : cutRange start len done = bs) :
    exec (.repeaterReadComplete nth code data) s =
      .next { s.complete nth code with repeater := s.repeater.sends s.plan.repeater.rate false bs } := by
  obtain ⟨hrepeater, hplan⟩ := s.complete_repeater_plan nth code
  rw [h.exec_eq hdone, State.partsRead_sends hlast (hrepeater ▸ hfree) (s.complete_presentSource nth code ▸ hsrc) hokay,
    hrepeater, hplan, hcut]

/-- The last read, with one of the reads answered MEMERR. -/
theorem memerr (h : s.AwaitsRead nth g part parts data) (hdone : (parts.modify part fun p => p.finish code data) = done)
    (hlast : done.all (·.done) = true) (hfree : s.repeater.finishing = none)
    (hfailed : (done.any fun p => p.words.isNone) = true) :
    exec (.repeaterReadComplete nth code data) s =
      .next { s.complete nth code with repeater := s.repeater.sends s.plan.repeater.rate true [] } := by
  obtain ⟨hrepeater, hplan⟩ := s.complete_repeater_plan nth code
  rw [h.exec_eq hdone, State.partsRead_memerr hlast (hrepeater ▸ hfree) hfailed, hrepeater, hplan]

end State.AwaitsRead

/-- Settles O58: a read that the frame in hand waits for (`State.AwaitsRead`) leaves it waiting, sends it, or sends it with
MEMERR. -/
theorem lastRangeReadSendsFrame : Obligations.LastRangeReadSendsFrame := by
  refine ⟨fun s nth r g data start len hrun hr hpurpose _ hbeats hframe hfree hsrc => ?_,
    fun s nth r g n data start len other hrun hr _ hbeats hfree hsrc => ⟨fun hpurpose => ?_, fun hpurpose => ?_⟩⟩
  · have h : s.AwaitsRead nth g 0 _ data := ⟨hrun, ⟨r, hr, hpurpose, hbeats⟩, hframe⟩
    exact ⟨h.sends rfl rfl hfree hsrc rfl (cutRange_one ..), h.memerr rfl rfl hfree rfl⟩
  · have awaits {parts} : s.repeater.frame = .awaiting g parts → s.AwaitsRead nth g 0 parts data :=
      fun hframe => ⟨hrun, ⟨r, hr, hpurpose, hbeats⟩, hframe⟩
    refine ⟨fun hframe => ⟨(awaits hframe).waits rfl rfl, (awaits hframe).waits rfl rfl⟩, fun hframe => ⟨?_, ?_, ?_⟩⟩
    · rintro ws rfl
      exact (awaits hframe).sends rfl rfl hfree hsrc rfl (cutRange_two ..)
    · rintro rfl
      exact (awaits hframe).memerr rfl rfl hfree rfl
    · exact (awaits hframe).memerr rfl rfl hfree rfl
  · have awaits {parts} : s.repeater.frame = .awaiting g parts → s.AwaitsRead nth g 1 parts data :=
      fun hframe => ⟨hrun, ⟨r, hr, hpurpose, hbeats⟩, hframe⟩
    refine ⟨fun hframe => ⟨(awaits hframe).waits rfl rfl, (awaits hframe).waits rfl rfl⟩, fun hframe => ⟨?_, ?_, ?_⟩⟩
    · rintro ws rfl
      exact (awaits hframe).sends rfl rfl hfree hsrc rfl (cutRange_two ..)
    · rintro rfl
      exact (awaits hframe).memerr rfl rfl hfree rfl
    · exact (awaits hframe).memerr rfl rfl hfree (Bool.or_true _)

end Sys2Proof.Machine
end

section
/-! HELM_TX bit by bit (O60). -/

namespace Sys2Proof.Machine

/-! ### The bytes of a frame (Table 11-17) -/

theorem frameBytes_length (number : BitVec 8) (index : Nat) (memerr : Bool) (data : List Byte) :
    (frameBytes number index memerr data).length = 6 + data.length := by
  simp [frameBytes]
  omega

/-- Bytes with their checksum sum to 0 (R174). -/
theorem foldl_add_checksum (bs : List Byte) : (bs ++ [checksum bs]).foldl (· + ·) 0 = 0 := by
  rw [List.foldl_concat, checksum, BitVec.add_comm, BitVec.sub_add_cancel]

/-! ### A frame bit by bit (R174) -/

/-- Inside a byte each bit-time goes on to the next bit. -/
theorem SendingFrame.iterate_bitTime_in_byte (rate : RepeaterRate) (b : Byte) (bs : List Byte) {n : Nat} (h : n < 10) :
    SendingFrame.bitTime^[n] ⟨rate, b :: bs, 0⟩ = ⟨rate, b :: bs, n⟩ := by
  induction n with
  | zero => rfl
  | succ n ih =>
    rw [Function.iterate_succ_apply', ih (by omega)]
    exact if_pos (show n < 9 by omega)

/-- After ten bit-times the next byte is on the line. -/
theorem SendingFrame.iterate_bitTime_byte (rate : RepeaterRate) (b : Byte) (bs : List Byte) :
    SendingFrame.bitTime^[10] ⟨rate, b :: bs, 0⟩ = ⟨rate, bs, 0⟩ := by
  rw [Function.iterate_succ_apply', SendingFrame.iterate_bitTime_in_byte rate b bs (by omega)]
  rfl

/-- A frame with no byte left stays so. -/
theorem SendingFrame.iterate_bitTime_nil (rate : RepeaterRate) (n : Nat) :
    SendingFrame.bitTime^[n] ⟨rate, [], 0⟩ = ⟨rate, [], 0⟩ :=
  Function.iterate_fixed rfl n

/-- A frame gives the levels of its bytes in their order, and high after the last. -/
theorem SendingFrame.level_iterate_bitTime (rate : RepeaterRate) (bs : List Byte) (n : Nat) :
    (SendingFrame.bitTime^[n] ⟨rate, bs, 0⟩).level = (bs.flatMap helmBits).getD n true := by
  induction bs generalizing n with
  | nil => rw [SendingFrame.iterate_bitTime_nil]; rfl
  | cons b bs ih =>
    rw [List.flatMap_cons]
    by_cases h : n < 10
    · rw [SendingFrame.iterate_bitTime_in_byte rate b bs h, List.getD_append _ _ _ _ h]
      rfl
    · obtain ⟨m, rfl⟩ := Nat.exists_eq_add_of_le' (Nat.le_of_not_lt h)
      rw [Function.iterate_add_apply, SendingFrame.iterate_bitTime_byte, ih,
        List.getD_append_right _ _ _ _ (Nat.le_add_left 10 m), helmBits_length, Nat.add_sub_cancel]

/-- A frame has gone after ten bit-times a byte. -/
theorem SendingFrame.iterate_bitTime_all (rate : RepeaterRate) (bs : List Byte) :
    SendingFrame.bitTime^[10 * bs.length] ⟨rate, bs, 0⟩ = ⟨rate, [], 0⟩ := by
  induction bs with
  | nil => rfl
  | cons b bs ih =>
    rw [List.length_cons, Nat.mul_succ, Function.iterate_add_apply, SendingFrame.iterate_bitTime_byte, ih]

theorem SendingFrame.iterate_bitTime_rate (f : SendingFrame) (n : Nat) : (SendingFrame.bitTime^[n] f).rate = f.rate := by
  induction n with
  | zero => rfl
  | succ n ih => rw [Function.iterate_succ_apply', SendingFrame.bitTime_rate, ih]

/-! ### The line (R171, R174, R177) -/

section
variable {s : State} {f : SendingFrame}

theorem step_of_no_command (h : s.pending = []) (hreset : s.inReset = false) :
    step s = .next { s with repeater := s.repeater.bitTime } := by
  have hidle : s.idle = s.modRepeater Repeater.bitTime := if_neg (by rw [hreset]; exact Bool.false_ne_true)
  have hstep : step s = .next s.idle := by rw [step, h]
  rw [hstep, hidle]
  rfl

theorem Repeater.onLine_finishing {r : Repeater} (h : r.finishing = some f) : r.onLine = some f := by
  rw [Repeater.onLine, h]

theorem Repeater.onLine_sending {r : Repeater} (h : r.finishing = none) (hframe : r.frame = .sending f) :
    r.onLine = some f := by
  rw [Repeater.onLine, h, hframe]

theorem Repeater.onLine_none {r : Repeater} (h : r.finishing = none) (hframe : ∀ f, r.frame ≠ .sending f) :
    r.onLine = none := by
  rw [Repeater.onLine, h]
  cases hr : r.frame with
  | sending f => exact absurd hr (hframe f)
  | none | awaiting g parts | held b bs => rfl

theorem Repeater.bitTime_finishing {r : Repeater} (h : r.finishing = some f) :
    r.bitTime = { r with finishing := some f.bitTime } := by
  simp [Repeater.bitTime, h]

theorem Repeater.bitTime_sending {r : Repeater} (h : r.finishing = none) (hframe : r.frame = .sending f) :
    r.bitTime = { r with frame := .sending f.bitTime } := by
  simp [Repeater.bitTime, FrameInHand.bitTime, h, hframe]

/-- With no frame on the line a bit-time changes nothing. -/
theorem Repeater.bitTime_none {r : Repeater} (h : r.finishing = none) (hframe : ∀ f, r.frame ≠ .sending f) :
    r.bitTime = r := by
  have hkept : r.frame.bitTime = r.frame := by
    cases hr : r.frame with
    | sending f => exact absurd hr (hframe f)
    | none | awaiting g parts | held b bs => rfl
  rw [Repeater.bitTime, h, hkept]
  exact congrArg (fun o => { r with finishing := o }) h.symm

theorem State.helmTx_of_onLine (hreset : s.inReset = false) (h : s.repeater.onLine = some f) : s.helmTx = f.level := by
  rw [State.helmTx, hreset, h]
  rfl

theorem State.helmTx_of_free (h : s.repeater.onLine = none) : s.helmTx = true := by
  rw [State.helmTx, h]
  exact Bool.or_true _

end

/-- Settles O60: the checksum, a frame byte after byte, and the line by the frame that is on it. -/
theorem helmLineSendsFrames : Obligations.HelmLineSendsFrames := by
  refine ⟨fun number index memerr data => ⟨frameBytes_length number index memerr data, rfl, foldl_add_checksum _⟩,
    fun f n hbit => ?_, fun s hpending hreset => ?_, ?_⟩
  · obtain ⟨rate, bs, _⟩ := f
    obtain rfl := hbit
    refine ⟨SendingFrame.level_iterate_bitTime rate bs n, ?_, SendingFrame.iterate_bitTime_rate _ n⟩
    rw [SendingFrame.iterate_bitTime_all]
  · rw [step_of_no_command hpending hreset]
    refine ⟨fun hfree hframe => ?_, fun f hfinishing => ?_, fun f hfree hframe => ?_⟩
    · rw [Repeater.bitTime_none hfree hframe]
      exact ⟨rfl, State.helmTx_of_free (Repeater.onLine_none hfree hframe)⟩
    · rw [Repeater.bitTime_finishing hfinishing]
      exact ⟨State.helmTx_of_onLine hreset (Repeater.onLine_finishing hfinishing), rfl⟩
    · rw [Repeater.bitTime_sending hfree hframe]
      exact ⟨State.helmTx_of_onLine hreset (Repeater.onLine_sending hfree hframe), rfl⟩
  · rintro planSel s t h
    obtain rfl := Host.Outcome.next.inj h
    exact State.helmTx_of_inReset _ rfl

end Sys2Proof.Machine
end

section
/-! Commands and their queue: a step takes the command at the front (O1), and every well-formed command completes and leaves
the queue as it was (O2). -/

namespace Sys2Proof.Machine

/-! ### The front of the queue -/

theorem State.dequeue_cons (c : Instr) (s : State) : State.dequeue { s with pending := c :: s.pending } = s := rfl

theorem step_of_front {c : Instr} {cs : List Instr} {s : State} (h : s.pending = c :: cs) : step s = exec c s.dequeue := by
  rw [step, h]

/-- Settles O1: the front command runs on the state with the queue's rest, which is the state before it was queued. -/
theorem stepTakesFront : Obligations.StepTakesFront := fun c s =>
  (step_of_front (s := { s with pending := c :: s.pending }) rfl).trans (congrArg (exec c) (s.dequeue_cons c))

/-! ### The queue over one event -/

theorem State.event_pending {s : State} {f : State → State} (h : (f s).pending = s.pending) :
    (s.event f).pending = s.pending := by
  unfold State.event
  split
  · rfl
  · exact h

theorem State.wire_pending (s : State) (l : LinkId) (levels : List Level) (e : WireEvent) {f : State → State}
    (hf : ∀ u, (f u).pending = u.pending) : (s.wire l levels e f).pending = s.pending := by
  unfold State.wire
  split
  · rfl
  · split
    · exact hf _
    · rfl

theorem State.settle_pending (s : State) : s.settle.pending = s.pending := s.settle_within.pending

theorem State.captureWithheld_pending (s : State) (t : Transfer) (ds : List Disposition) :
    (s.captureWithheld t ds).pending = s.pending := by
  unfold State.captureWithheld
  split <;> rfl

theorem State.taking_pending (s : State) (t : Transfer) : (s.taking t).pending = s.pending := by
  obtain ⟨heffects, -, -⟩ := s.takeEffects_pending t
  exact (State.settle_pending _).trans ((State.captureWithheld_pending _ t _).trans heffects)

theorem State.takeNext_pending (s : State) : s.takeNext.pending = s.pending := by
  unfold State.takeNext
  split
  · rfl
  · split
    · exact State.taking_pending _ _
    · rfl

theorem State.takeUpTo_pending (n : Nat) (s : State) : (State.takeUpTo n s).pending = s.pending := by
  induction n generalizing s with
  | zero => rfl
  | succ n ih => exact (ih _).trans s.takeNext_pending

theorem State.resetEnds_pending (s : State) (i : InputLevels) : (s.resetEnds i).pending = s.pending :=
  State.takeUpTo_pending s.path.port.length (s.inputsRead i)

theorem State.presentTransfer_pending (s : State) (t : Transfer) : (s.presentTransfer t).pending = s.pending := by
  unfold State.presentTransfer
  dsimp only
  split
  · rfl
  · exact State.takeNext_pending _

theorem State.request_pending (s : State) (t : Option Transfer) : (s.request t).pending = s.pending := by
  cases t with
  | none => rfl
  | some t => exact s.presentTransfer_pending t

theorem State.pieceAnswered_pending (s : State) (i k : Nat) (code : DownCode) (data : List Word) :
    (s.pieceAnswered i k code data).pending = s.pending := by
  unfold State.pieceAnswered
  split
  · exact State.settle_pending _
  · rfl

theorem State.responseLeaves_pending (s : State) : s.responseLeaves.pending = s.pending := by
  unfold State.responseLeaves
  split
  · rfl
  · exact State.takeNext_pending _

/-! ### The queue over the completion of an internal transfer (R19, R20) -/

theorem State.complete_pending (s : State) (nth : Nat) (code : DownCode) : (s.complete nth code).pending = s.pending := by
  cases code <;> rfl

theorem State.planReadCompletes_pending (s : State) (nth : Nat) (code : DownCode) (data : List Word) :
    (s.planReadCompletes nth code data).pending = s.pending := by
  unfold State.planReadCompletes
  split
  · exact (State.planRead_within _ _ _ _ _).pending.trans (s.complete_pending nth code)
  · rfl

theorem State.slotFetchCompletes_pending (s : State) (nth : Nat) (code : DownCode) (data : List Word) :
    (s.slotFetchCompletes nth code data).pending = s.pending := by
  unfold State.slotFetchCompletes
  split
  · exact (State.fetchCompleted_linkSide _ _ _ _ _ _).pending.trans (s.complete_pending nth code)
  · rfl

theorem State.bodyWriteCompletes_pending (s : State) (nth : Nat) (code : DownCode) :
    (s.bodyWriteCompletes nth code).pending = s.pending := by
  unfold State.bodyWriteCompletes
  split
  · exact (State.bodyWritten_inner _ _).pending.trans (s.complete_pending nth code)
  · rfl

theorem State.markerWriteCompletes_pending (s : State) (nth : Nat) (code : DownCode) :
    (s.markerWriteCompletes nth code).pending = s.pending := by
  unfold State.markerWriteCompletes
  split
  · exact (State.markerWritten_inner _ _).pending.trans (s.complete_pending nth code)
  · rfl

theorem State.repeaterReadCompletes_pending (s : State) (nth : Nat) (code : DownCode) (data : List Word) :
    (s.repeaterReadCompletes nth code data).pending = s.pending := by
  unfold State.repeaterReadCompletes
  split
  · exact (State.rangeRead_inner _ _ _ _ _).pending.trans (s.complete_pending nth code)
  · rfl

/-! ### Every command -/

/-- An outcome completes a command on `s`: a next state with the queue of `s`. -/
def Completes (s : State) (o : Host.Outcome State Fault Refusal) : Prop := ∃ t, o = .next t ∧ t.pending = s.pending

namespace Completes

variable {s t : State} {f : State → State} {c : Prop} [Decidable c]

theorem next (h : t.pending = s.pending) : Completes s (.next t) := ⟨t, rfl, h⟩

theorem event (h : (f s).pending = s.pending) : Completes s (.next (s.event f)) := next (State.event_pending h)

/-- An event taken where it is due, and out of place otherwise (log 2). -/
theorem dueEvent (h : (f s).pending = s.pending) : Completes s (.next (if c then s.event f else s)) := by
  split
  · exact event h
  · exact next rfl

theorem undueEvent (h : (f s).pending = s.pending) : Completes s (.next (if c then s else s.event f)) := by
  split
  · exact next rfl
  · exact event h

/-- The event of a line command, where the levels bring it about (log 9). -/
theorem wireEvent {l : LinkId} {levels : List Level} {e : WireEvent} (hf : ∀ u, (f u).pending = u.pending) :
    Completes s (.next (s.event fun t => t.wire l levels e f)) :=
  event (s.wire_pending l levels e hf)

/-- A request whose operands describe a transfer that the memory link carries is not refused (log 4). -/
theorem ite {r : Refusal} (hc : c) (h : t.pending = s.pending) : Completes s (if c then .next t else .refused r) := by
  rw [if_pos hc]
  exact next h

end Completes

theorem execMirroredMessageEnd_completes (l : LinkId) (s : State) : Completes s (execMirroredMessageEnd l s) := by
  unfold execMirroredMessageEnd
  split
  · exact .next rfl
  · exact .event (s.mirroredEnds_inner l _).pending

/-- Every well-formed command completes; only the three that describe a transfer of their own can be ill-formed. -/
theorem exec_completes {c : Instr} (h : c.wellFormed = true) (s : State) : Completes s (exec c s) := by
  cases c with
  | startReset planSel => exact .next rfl
  | resetEnd i =>
    show Completes s (.next (if s.inReset then s.resetEnds i else s))
    split
    · exact .next (s.resetEnds_pending i)
    · exact .next rfl
  | upstreamTransferTaken t => exact .ite h (s.presentTransfer_pending t)
  | latentFetch w n id | take w n id => exact .ite h (s.request_pending _)
  | planSequenceTrigger id value => exact .next (s.presentTransfer_pending _)
  | modeRequestSetup l id | modeRequestRun l id | modeRequestListen l id | modeRequestMirror l id
  | modeRequestQuiet l id | send l i id body | answer l i id body | abort l i id | abortAll l id | release r e id
  | enable c id f | disable c id f | moveOut c id f | moveIn c id f | goto c id f | stop c id f | clearTrip c id f
  | watchOn c id f | watchOff c id f => exact .next (s.request_pending _)
  | stampTick | downstreamGrant | eslRelease | attentionPulseEnd | attentionGapEnd => exact .event rfl
  | pieceAnswered i k code data => exact .event (s.pieceAnswered_pending i k code data)
  | upstreamResponseLeaves => exact .event s.responseLeaves_pending
  | planReadComplete nth code data => exact .event (s.planReadCompletes_pending nth code data)
  | slotFetchComplete nth code data => exact .event (s.slotFetchCompletes_pending nth code data)
  | ringBodyWriteComplete nth code => exact .event (s.bodyWriteCompletes_pending nth code)
  | ringMarkerWriteComplete nth code => exact .event (s.markerWriteCompletes_pending nth code)
  | repeaterReadComplete nth code data => exact .event (s.repeaterReadCompletes_pending nth code data)
  | quietGap l levels =>
    exact .undueEvent (s.wire_pending l levels _ fun u => (u.quietGap_linkSide l).pending)
  | recovery l levels =>
    exact .dueEvent (s.wire_pending l levels _ fun u => (u.recover_linkSide l).pending)
  | startMarkRead l levels => exact .wireEvent fun u => (u.modLink_linkSide l _).pending
  | arbitrationLost l levels => exact .wireEvent fun u => (u.arbitrationLost_linkSide l).pending
  | messageSent l levels => exact .wireEvent fun u => (u.messageSent_linkSide l).pending
  | messageReceived l levels => exact .wireEvent fun u => (u.messageReceived_inner l).pending
  | shapeError l levels => exact .wireEvent fun u => (u.shapeError_linkSide l).pending
  | checkError l levels => exact .wireEvent fun u => (u.checkError_inner l).pending
  | noConfirmError l levels => exact .wireEvent fun u => (u.sendingError_linkSide l .noConfirm nofun nofun).pending
  | clashError l levels => exact .wireEvent fun u => (u.sendingError_linkSide l .clash nofun nofun).pending
  | stuck l levels => exact .wireEvent fun u => (u.stuckError_linkSide l).pending
  | errorMarkEnd l levels => exact .wireEvent fun u => (u.markEnds_linkSide l).pending
  | quietWake l levels => exact .wireEvent fun u => (u.wake_linkSide l).pending
  | mirrorGapEnd l => exact .dueEvent (s.mirrorGapEnds_linkSide l).pending
  | mirroredMessageEnd l => exact execMirroredMessageEnd_completes l s
  | autoExpiry p => exact .dueEvent (s.autoExpires_commSide p).pending
  | replyTimeout p => exact .dueEvent (s.replyExpires_linkSide 0 p).pending
  | stalenessExpiry p => exact .dueEvent (s.staleExpires_inner p).pending
  | rampEnd c => exact .dueEvent (s.rampEnds_driveSide c).pending
  | currentConversion c v => exact .event (s.convert_driveSide c v).pending
  | overcurrentEvent c => exact .dueEvent (s.overcurrent_driveSide c).pending
  | pulse c => exact .event (s.pulse_driveSide c).pending
  | endSwitchChange c which active => exact .undueEvent (s.endSwitch_driveSide c which active).pending
  | dwellExpiry c => exact .dueEvent (s.toRest_driveSide c .ready).pending
  | stallExpiry c => exact .dueEvent (s.trip_driveSide c .stall).pending
  | runtimeExpiry c => exact .dueEvent (s.trip_driveSide c .runtime).pending
  | holdExpiry c => exact .dueEvent (s.stopMotion_driveSide c .holdLapse).pending
  | eslAssertion => exact .undueEvent (s.eslTrips_driveSide (chanOrder (Config.eslOrder s.freeCount))).pending
  | repeaterPeriodExpiry => exact .dueEvent s.periodExpires_inner.pending
  | frameSent => exact .dueEvent s.frameEnds_inner.pending
  | finishingFrameSent => exact .dueEvent s.finishingEnds_inner.pending

/-- An ill-formed command is one of the three that describe a transfer of their own, and is refused by name (log 4). -/
theorem exec_refuses {c : Instr} (h : c.wellFormed = false) (s : State) : exec c s = .refused .illFormed := by
  cases c with
  | upstreamTransferTaken t | latentFetch w n id | take w n id => exact if_neg ((Bool.not_eq_true _).mpr h)
  | _ => cases h

/-- Settles O2: the meaning of each command either completes or asks first whether the command is well formed. -/
theorem wellFormedCommandCompletes : Obligations.WellFormedCommandCompletes := fun _ s =>
  ⟨fun h => exec_completes h s, fun h => exec_refuses h s⟩

end Sys2Proof.Machine
end
